-- ==== Sys2Proof/Word.lean ====
section
/-!
DEFINITION. The two widths of the machine: 8-bit registers, memory cells and ports, 16-bit addresses,
register pairs, SP and PC (spec 00_scope R5, R7).
-/

namespace Sys2Proof

/-- An 8-bit value: a register, a memory cell, an immediate d8, a port address (R5). -/
abbrev Byte := BitVec 8

/-- A 16-bit value: a register pair, SP, PC, an address, an immediate d16 (R5). Arithmetic wraps (R54). -/
abbrev Word := BitVec 16

end Sys2Proof
end

