-- ==== Sys2Proof/Config.lean ====
section
/-!
DEFINITION. What an implementation or its platform fixes (spec 00_scope R5), and the FREE VALUES: opaque
constants with no body, so that no proof can know them and a claim holds whatever they are.
-/

namespace Sys2Proof

/-- Which of the two parts is modelled (R5, decision D1). -/
inductive Variant where
  | i8080
  | i8085A
deriving DecidableEq, Repr

/-- What stands at a memory address (R55): writable memory, read-only memory, or nothing. -/
inductive CellKind where
  | ram
  | rom
  | absent
deriving DecidableEq, Repr

/-- One entry of a memory map (R55): the `size` addresses from `base` on are of this kind. -/
structure Region where
  base : Nat
  size : Nat
  kind : CellKind
deriving DecidableEq, Repr

/-- What a memory address that the memory does not list reads as. R43 and R291 leave the initial content
of RAM unspecified. DESIGN CHOICE 00h, unsafe (log 3). -/
def unlistedByte : Byte := 0x00#8

/-- FREE VALUE, safe (log 6): the byte read from an absent cell (R55, U2: "a fresh draw at every read"),
by the boundary counter, whether the read is an instruction fetch, and the address. Within one step no two
reads agree in all three. -/
opaque Config.absentByte : Nat → Bool → Word → Byte

/-- FREE VALUE, safe (log 7): the environment's answer to a port read for which State lists none
(R57, U11), by the boundary counter and the port address. -/
opaque Config.portByte : Nat → Byte → Byte

/-- FREE VALUE, safe (log 9): bit 3 of the byte RIM delivers when it is the instruction right after EI
(R241, U9, decision D30), by the boundary counter. -/
opaque Config.rimEnableBit : Nat → Bool

end Sys2Proof
end

