-- ==== Sys2Proof/WellFormed.lean ====
section
/-!
DEFINITION. Which instruction terms stand for bytes of the opcode map. Every operand value of a defined
instruction is legal (30_encoding R85), so the one check is on the byte an `undefined` term carries (R84).
-/

namespace Sys2Proof

/-- The ten bytes the source prints "—" for (R84, R251). -/
def undefinedBytes : List Byte :=
  [0x08#8, 0x10#8, 0x18#8, 0x28#8, 0x38#8, 0xCB#8, 0xD9#8, 0xDD#8, 0xED#8, 0xFD#8]

/-- An instruction term is well-formed when an `undefined` one carries a byte of `undefinedBytes`; every
other operand value is legal (R85). -/
def Instr.wf : Instr → Bool
  | .undefined op => undefinedBytes.contains op
  | _ => true

/-- The instructions the 8080 lacks (R84, footnote 3 of the source): RIM and SIM. -/
def Instr.only8085 : Instr → Bool
  | .rim => true
  | .sim => true
  | _ => false

/-- The instruction is defined on this part (R84). -/
def Instr.definedOn (v : Variant) : Instr → Bool
  | .undefined _ => false
  | i => !(i.only8085 && v == .i8080)

end Sys2Proof
end

