-- ==== Sys2Proof/Decode.lean ====
section
/-!
DEFINITION. Decoding, total on any bytes, and the encoder. The opcode map is the grid of 30_encoding R89
transcribed row by row (sixteen rows of sixteen cells); lengths and operand places are R71, R72, R78, R79.
-/

namespace Sys2Proof

/-- `hi ++ lo`: the 16-bit value with these two bytes (R6, R79). -/
def joinBytes (hi lo : Byte) : Word := hi ++ lo

/-- Bits 15 to 8 of a 16-bit value, its `h` byte (R2, R8). -/
def highByte (w : Word) : Byte := w.extractLsb' 8 8

/-- Bits 7 to 0 of a 16-bit value, its `l` byte (R2, R8). -/
def lowByte (w : Word) : Byte := w.extractLsb' 0 8

/-- One cell of the opcode map: an instruction with its format (R72), or the source's "—" (R84). -/
inductive Entry where
  /-- "—": no instruction (R84). -/
  | none
  /-- Format I1: the opcode byte alone. -/
  | i1 (i : Instr)
  /-- Format I2: the opcode byte, then d8. -/
  | i2 (i : Byte → Instr)
  /-- Format P2: the opcode byte, then the port address. -/
  | p2 (i : Byte → Instr)
  /-- Format A3: the opcode byte, then a 16-bit value, low byte first. -/
  | a3 (i : Word → Instr)

/-- Row 0x of the opcode map (R89). -/
def opcodeRow0 : List Entry :=
  [.i1 .nop, .a3 .lxiB, .i1 .staxB, .i1 .inxB, .i1 .inrB, .i1 .dcrB, .i2 .mviB, .i1 .rlc, .none, .i1 .dadB,
   .i1 .ldaxB, .i1 .dcxB, .i1 .inrC, .i1 .dcrC, .i2 .mviC, .i1 .rrc]

/-- Row 1x of the opcode map (R89). -/
def opcodeRow1 : List Entry :=
  [.none, .a3 .lxiD, .i1 .staxD, .i1 .inxD, .i1 .inrD, .i1 .dcrD, .i2 .mviD, .i1 .ral, .none, .i1 .dadD,
   .i1 .ldaxD, .i1 .dcxD, .i1 .inrE, .i1 .dcrE, .i2 .mviE, .i1 .rar]

/-- Row 2x of the opcode map (R89). -/
def opcodeRow2 : List Entry :=
  [.i1 .rim, .a3 .lxiH, .a3 .shld, .i1 .inxH, .i1 .inrH, .i1 .dcrH, .i2 .mviH, .i1 .daa, .none, .i1 .dadH,
   .a3 .lhld, .i1 .dcxH, .i1 .inrL, .i1 .dcrL, .i2 .mviL, .i1 .cma]

/-- Row 3x of the opcode map (R89). -/
def opcodeRow3 : List Entry :=
  [.i1 .sim, .a3 .lxiSp, .a3 .sta, .i1 .inxSp, .i1 .inrM, .i1 .dcrM, .i2 .mviM, .i1 .stc, .none,
   .i1 .dadSp, .a3 .lda, .i1 .dcxSp, .i1 .inrA, .i1 .dcrA, .i2 .mviA, .i1 .cmc]

/-- Row 4x of the opcode map (R89). -/
def opcodeRow4 : List Entry :=
  [.i1 .movBB, .i1 .movBC, .i1 .movBD, .i1 .movBE, .i1 .movBH, .i1 .movBL, .i1 .movBM, .i1 .movBA,
   .i1 .movCB, .i1 .movCC, .i1 .movCD, .i1 .movCE, .i1 .movCH, .i1 .movCL, .i1 .movCM, .i1 .movCA]

/-- Row 5x of the opcode map (R89). -/
def opcodeRow5 : List Entry :=
  [.i1 .movDB, .i1 .movDC, .i1 .movDD, .i1 .movDE, .i1 .movDH, .i1 .movDL, .i1 .movDM, .i1 .movDA,
   .i1 .movEB, .i1 .movEC, .i1 .movED, .i1 .movEE, .i1 .movEH, .i1 .movEL, .i1 .movEM, .i1 .movEA]

/-- Row 6x of the opcode map (R89). -/
def opcodeRow6 : List Entry :=
  [.i1 .movHB, .i1 .movHC, .i1 .movHD, .i1 .movHE, .i1 .movHH, .i1 .movHL, .i1 .movHM, .i1 .movHA,
   .i1 .movLB, .i1 .movLC, .i1 .movLD, .i1 .movLE, .i1 .movLH, .i1 .movLL, .i1 .movLM, .i1 .movLA]

/-- Row 7x of the opcode map (R89). -/
def opcodeRow7 : List Entry :=
  [.i1 .movMB, .i1 .movMC, .i1 .movMD, .i1 .movME, .i1 .movMH, .i1 .movML, .i1 .hlt, .i1 .movMA,
   .i1 .movAB, .i1 .movAC, .i1 .movAD, .i1 .movAE, .i1 .movAH, .i1 .movAL, .i1 .movAM, .i1 .movAA]

/-- Row 8x of the opcode map (R89). -/
def opcodeRow8 : List Entry :=
  [.i1 .addB, .i1 .addC, .i1 .addD, .i1 .addE, .i1 .addH, .i1 .addL, .i1 .addM, .i1 .addA, .i1 .adcB,
   .i1 .adcC, .i1 .adcD, .i1 .adcE, .i1 .adcH, .i1 .adcL, .i1 .adcM, .i1 .adcA]

/-- Row 9x of the opcode map (R89). -/
def opcodeRow9 : List Entry :=
  [.i1 .subB, .i1 .subC, .i1 .subD, .i1 .subE, .i1 .subH, .i1 .subL, .i1 .subM, .i1 .subA, .i1 .sbbB,
   .i1 .sbbC, .i1 .sbbD, .i1 .sbbE, .i1 .sbbH, .i1 .sbbL, .i1 .sbbM, .i1 .sbbA]

/-- Row Ax of the opcode map (R89). -/
def opcodeRowA : List Entry :=
  [.i1 .anaB, .i1 .anaC, .i1 .anaD, .i1 .anaE, .i1 .anaH, .i1 .anaL, .i1 .anaM, .i1 .anaA, .i1 .xraB,
   .i1 .xraC, .i1 .xraD, .i1 .xraE, .i1 .xraH, .i1 .xraL, .i1 .xraM, .i1 .xraA]

/-- Row Bx of the opcode map (R89). -/
def opcodeRowB : List Entry :=
  [.i1 .oraB, .i1 .oraC, .i1 .oraD, .i1 .oraE, .i1 .oraH, .i1 .oraL, .i1 .oraM, .i1 .oraA, .i1 .cmpB,
   .i1 .cmpC, .i1 .cmpD, .i1 .cmpE, .i1 .cmpH, .i1 .cmpL, .i1 .cmpM, .i1 .cmpA]

/-- Row Cx of the opcode map (R89). -/
def opcodeRowC : List Entry :=
  [.i1 .rnz, .i1 .popB, .a3 .jnz, .a3 .jmp, .a3 .cnz, .i1 .pushB, .i2 .adi, .i1 .rst0, .i1 .rz, .i1 .ret,
   .a3 .jz, .none, .a3 .cz, .a3 .call, .i2 .aci, .i1 .rst1]

/-- Row Dx of the opcode map (R89). -/
def opcodeRowD : List Entry :=
  [.i1 .rnc, .i1 .popD, .a3 .jnc, .p2 .outPort, .a3 .cnc, .i1 .pushD, .i2 .sui, .i1 .rst2, .i1 .rc, .none,
   .a3 .jc, .p2 .inPort, .a3 .cc, .none, .i2 .sbi, .i1 .rst3]

/-- Row Ex of the opcode map (R89). -/
def opcodeRowE : List Entry :=
  [.i1 .rpo, .i1 .popH, .a3 .jpo, .i1 .xthl, .a3 .cpo, .i1 .pushH, .i2 .ani, .i1 .rst4, .i1 .rpe,
   .i1 .pchl, .a3 .jpe, .i1 .xchg, .a3 .cpe, .none, .i2 .xri, .i1 .rst5]

/-- Row Fx of the opcode map (R89). -/
def opcodeRowF : List Entry :=
  [.i1 .rp, .i1 .popPsw, .a3 .jp, .i1 .di, .a3 .cp, .i1 .pushPsw, .i2 .ori, .i1 .rst6, .i1 .rm, .i1 .sphl,
   .a3 .jm, .i1 .ei, .a3 .cm, .none, .i2 .cpi, .i1 .rst7]

/-- The opcode map: the row is the high hexadecimal digit of the opcode byte, the column the low one (R89). -/
def opcodeMap : List (List Entry) :=
  [opcodeRow0, opcodeRow1, opcodeRow2, opcodeRow3, opcodeRow4, opcodeRow5, opcodeRow6, opcodeRow7,
   opcodeRow8, opcodeRow9, opcodeRowA, opcodeRowB, opcodeRowC, opcodeRowD, opcodeRowE, opcodeRowF]

/-- The cell of an opcode byte (R86, R89). -/
def opcodeEntry (op : Byte) : Entry :=
  (opcodeMap.getD (op.toNat / 16) []).getD (op.toNat % 16) .none

/-- The instruction of a cell, from the opcode byte and the two bytes after it (R72, R78, R79); a cell
without an instruction gives `undefined` with the byte. -/
def Entry.build (e : Entry) (op b2 b3 : Byte) : Instr :=
  match e with
  | .none => .undefined op
  | .i1 i => i
  | .i2 i => i b2
  | .p2 i => i b2
  | .a3 i => i (joinBytes b3 b2)

/-- How many bytes a cell's instruction has (R71). A byte without an instruction has no length in the spec
and faults before one is used; 1 is the one byte fetched (R251). -/
def Entry.length : Entry → Nat
  | .none => 1
  | .i1 _ => 1
  | .i2 _ => 2
  | .p2 _ => 2
  | .a3 _ => 3

/-- The decoder on an opcode byte and the two bytes after it, of which the instruction uses as many as its
format has (R86). Total: every byte is a defined instruction or `undefined`. -/
def decodeAt (op b2 b3 : Byte) : Instr := (opcodeEntry op).build op b2 b3

/-- Why a list of bytes is no instruction. -/
inductive DecodeError where
  /-- There is no opcode byte. -/
  | noBytes
  /-- The list ends before the operand bytes of this opcode. -/
  | truncated (op : Byte)
deriving DecidableEq, Repr

/-- The decoder on a list of bytes: the instruction and the bytes after it. -/
def decode : List Byte → Except DecodeError (Instr × List Byte)
  | [] => .error .noBytes
  | op :: rest =>
    if rest.length + 1 < (opcodeEntry op).length then .error (.truncated op)
    else .ok (decodeAt op (rest.getD 0 0) (rest.getD 1 0), rest.drop ((opcodeEntry op).length - 1))

/-- The bytes of an instruction whose bits are `w`, as the opcode table numbers them: bit 0 is the least
significant bit of the first byte, the second byte is bits 15 to 8; every bit from `nbits` on is 0. -/
def tableBytes (nbits w : Nat) : List Byte :=
  [BitVec.ofNat 8 (w % 2 ^ nbits), BitVec.ofNat 8 (w % 2 ^ nbits / 256), BitVec.ofNat 8 (w % 2 ^ nbits / 65536)]

/-- The instruction the decoder reads from a row's word of the opcode table. -/
def decodeTableWord (nbits w : Nat) : Option Instr :=
  match decode (tableBytes nbits w) with
  | .ok (i, _) => some i
  | .error _ => none

/-- The bytes of an instruction in the order they stand in memory: the opcode byte, then the operand, the low
byte of a 16-bit operand first (R59, R71, R89). -/
def encode : Instr → List Byte
  | .nop => [0x00#8]
  | .lxiB v => [0x01#8, lowByte v, highByte v]
  | .staxB => [0x02#8]
  | .inxB => [0x03#8]
  | .inrB => [0x04#8]
  | .dcrB => [0x05#8]
  | .mviB v => [0x06#8, v]
  | .rlc => [0x07#8]
  | .dadB => [0x09#8]
  | .ldaxB => [0x0A#8]
  | .dcxB => [0x0B#8]
  | .inrC => [0x0C#8]
  | .dcrC => [0x0D#8]
  | .mviC v => [0x0E#8, v]
  | .rrc => [0x0F#8]
  | .lxiD v => [0x11#8, lowByte v, highByte v]
  | .staxD => [0x12#8]
  | .inxD => [0x13#8]
  | .inrD => [0x14#8]
  | .dcrD => [0x15#8]
  | .mviD v => [0x16#8, v]
  | .ral => [0x17#8]
  | .dadD => [0x19#8]
  | .ldaxD => [0x1A#8]
  | .dcxD => [0x1B#8]
  | .inrE => [0x1C#8]
  | .dcrE => [0x1D#8]
  | .mviE v => [0x1E#8, v]
  | .rar => [0x1F#8]
  | .rim => [0x20#8]
  | .lxiH v => [0x21#8, lowByte v, highByte v]
  | .shld v => [0x22#8, lowByte v, highByte v]
  | .inxH => [0x23#8]
  | .inrH => [0x24#8]
  | .dcrH => [0x25#8]
  | .mviH v => [0x26#8, v]
  | .daa => [0x27#8]
  | .dadH => [0x29#8]
  | .lhld v => [0x2A#8, lowByte v, highByte v]
  | .dcxH => [0x2B#8]
  | .inrL => [0x2C#8]
  | .dcrL => [0x2D#8]
  | .mviL v => [0x2E#8, v]
  | .cma => [0x2F#8]
  | .sim => [0x30#8]
  | .lxiSp v => [0x31#8, lowByte v, highByte v]
  | .sta v => [0x32#8, lowByte v, highByte v]
  | .inxSp => [0x33#8]
  | .inrM => [0x34#8]
  | .dcrM => [0x35#8]
  | .mviM v => [0x36#8, v]
  | .stc => [0x37#8]
  | .dadSp => [0x39#8]
  | .lda v => [0x3A#8, lowByte v, highByte v]
  | .dcxSp => [0x3B#8]
  | .inrA => [0x3C#8]
  | .dcrA => [0x3D#8]
  | .mviA v => [0x3E#8, v]
  | .cmc => [0x3F#8]
  | .movBB => [0x40#8]
  | .movBC => [0x41#8]
  | .movBD => [0x42#8]
  | .movBE => [0x43#8]
  | .movBH => [0x44#8]
  | .movBL => [0x45#8]
  | .movBM => [0x46#8]
  | .movBA => [0x47#8]
  | .movCB => [0x48#8]
  | .movCC => [0x49#8]
  | .movCD => [0x4A#8]
  | .movCE => [0x4B#8]
  | .movCH => [0x4C#8]
  | .movCL => [0x4D#8]
  | .movCM => [0x4E#8]
  | .movCA => [0x4F#8]
  | .movDB => [0x50#8]
  | .movDC => [0x51#8]
  | .movDD => [0x52#8]
  | .movDE => [0x53#8]
  | .movDH => [0x54#8]
  | .movDL => [0x55#8]
  | .movDM => [0x56#8]
  | .movDA => [0x57#8]
  | .movEB => [0x58#8]
  | .movEC => [0x59#8]
  | .movED => [0x5A#8]
  | .movEE => [0x5B#8]
  | .movEH => [0x5C#8]
  | .movEL => [0x5D#8]
  | .movEM => [0x5E#8]
  | .movEA => [0x5F#8]
  | .movHB => [0x60#8]
  | .movHC => [0x61#8]
  | .movHD => [0x62#8]
  | .movHE => [0x63#8]
  | .movHH => [0x64#8]
  | .movHL => [0x65#8]
  | .movHM => [0x66#8]
  | .movHA => [0x67#8]
  | .movLB => [0x68#8]
  | .movLC => [0x69#8]
  | .movLD => [0x6A#8]
  | .movLE => [0x6B#8]
  | .movLH => [0x6C#8]
  | .movLL => [0x6D#8]
  | .movLM => [0x6E#8]
  | .movLA => [0x6F#8]
  | .movMB => [0x70#8]
  | .movMC => [0x71#8]
  | .movMD => [0x72#8]
  | .movME => [0x73#8]
  | .movMH => [0x74#8]
  | .movML => [0x75#8]
  | .hlt => [0x76#8]
  | .movMA => [0x77#8]
  | .movAB => [0x78#8]
  | .movAC => [0x79#8]
  | .movAD => [0x7A#8]
  | .movAE => [0x7B#8]
  | .movAH => [0x7C#8]
  | .movAL => [0x7D#8]
  | .movAM => [0x7E#8]
  | .movAA => [0x7F#8]
  | .addB => [0x80#8]
  | .addC => [0x81#8]
  | .addD => [0x82#8]
  | .addE => [0x83#8]
  | .addH => [0x84#8]
  | .addL => [0x85#8]
  | .addM => [0x86#8]
  | .addA => [0x87#8]
  | .adcB => [0x88#8]
  | .adcC => [0x89#8]
  | .adcD => [0x8A#8]
  | .adcE => [0x8B#8]
  | .adcH => [0x8C#8]
  | .adcL => [0x8D#8]
  | .adcM => [0x8E#8]
  | .adcA => [0x8F#8]
  | .subB => [0x90#8]
  | .subC => [0x91#8]
  | .subD => [0x92#8]
  | .subE => [0x93#8]
  | .subH => [0x94#8]
  | .subL => [0x95#8]
  | .subM => [0x96#8]
  | .subA => [0x97#8]
  | .sbbB => [0x98#8]
  | .sbbC => [0x99#8]
  | .sbbD => [0x9A#8]
  | .sbbE => [0x9B#8]
  | .sbbH => [0x9C#8]
  | .sbbL => [0x9D#8]
  | .sbbM => [0x9E#8]
  | .sbbA => [0x9F#8]
  | .anaB => [0xA0#8]
  | .anaC => [0xA1#8]
  | .anaD => [0xA2#8]
  | .anaE => [0xA3#8]
  | .anaH => [0xA4#8]
  | .anaL => [0xA5#8]
  | .anaM => [0xA6#8]
  | .anaA => [0xA7#8]
  | .xraB => [0xA8#8]
  | .xraC => [0xA9#8]
  | .xraD => [0xAA#8]
  | .xraE => [0xAB#8]
  | .xraH => [0xAC#8]
  | .xraL => [0xAD#8]
  | .xraM => [0xAE#8]
  | .xraA => [0xAF#8]
  | .oraB => [0xB0#8]
  | .oraC => [0xB1#8]
  | .oraD => [0xB2#8]
  | .oraE => [0xB3#8]
  | .oraH => [0xB4#8]
  | .oraL => [0xB5#8]
  | .oraM => [0xB6#8]
  | .oraA => [0xB7#8]
  | .cmpB => [0xB8#8]
  | .cmpC => [0xB9#8]
  | .cmpD => [0xBA#8]
  | .cmpE => [0xBB#8]
  | .cmpH => [0xBC#8]
  | .cmpL => [0xBD#8]
  | .cmpM => [0xBE#8]
  | .cmpA => [0xBF#8]
  | .rnz => [0xC0#8]
  | .popB => [0xC1#8]
  | .jnz v => [0xC2#8, lowByte v, highByte v]
  | .jmp v => [0xC3#8, lowByte v, highByte v]
  | .cnz v => [0xC4#8, lowByte v, highByte v]
  | .pushB => [0xC5#8]
  | .adi v => [0xC6#8, v]
  | .rst0 => [0xC7#8]
  | .rz => [0xC8#8]
  | .ret => [0xC9#8]
  | .jz v => [0xCA#8, lowByte v, highByte v]
  | .cz v => [0xCC#8, lowByte v, highByte v]
  | .call v => [0xCD#8, lowByte v, highByte v]
  | .aci v => [0xCE#8, v]
  | .rst1 => [0xCF#8]
  | .rnc => [0xD0#8]
  | .popD => [0xD1#8]
  | .jnc v => [0xD2#8, lowByte v, highByte v]
  | .outPort v => [0xD3#8, v]
  | .cnc v => [0xD4#8, lowByte v, highByte v]
  | .pushD => [0xD5#8]
  | .sui v => [0xD6#8, v]
  | .rst2 => [0xD7#8]
  | .rc => [0xD8#8]
  | .jc v => [0xDA#8, lowByte v, highByte v]
  | .inPort v => [0xDB#8, v]
  | .cc v => [0xDC#8, lowByte v, highByte v]
  | .sbi v => [0xDE#8, v]
  | .rst3 => [0xDF#8]
  | .rpo => [0xE0#8]
  | .popH => [0xE1#8]
  | .jpo v => [0xE2#8, lowByte v, highByte v]
  | .xthl => [0xE3#8]
  | .cpo v => [0xE4#8, lowByte v, highByte v]
  | .pushH => [0xE5#8]
  | .ani v => [0xE6#8, v]
  | .rst4 => [0xE7#8]
  | .rpe => [0xE8#8]
  | .pchl => [0xE9#8]
  | .jpe v => [0xEA#8, lowByte v, highByte v]
  | .xchg => [0xEB#8]
  | .cpe v => [0xEC#8, lowByte v, highByte v]
  | .xri v => [0xEE#8, v]
  | .rst5 => [0xEF#8]
  | .rp => [0xF0#8]
  | .popPsw => [0xF1#8]
  | .jp v => [0xF2#8, lowByte v, highByte v]
  | .di => [0xF3#8]
  | .cp v => [0xF4#8, lowByte v, highByte v]
  | .pushPsw => [0xF5#8]
  | .ori v => [0xF6#8, v]
  | .rst6 => [0xF7#8]
  | .rm => [0xF8#8]
  | .sphl => [0xF9#8]
  | .jm v => [0xFA#8, lowByte v, highByte v]
  | .ei => [0xFB#8]
  | .cm v => [0xFC#8, lowByte v, highByte v]
  | .cpi v => [0xFE#8, v]
  | .rst7 => [0xFF#8]
  | .undefined op => [op]

end Sys2Proof
end

