-- ==== Sys2Proof/Machine/State.lean ====
section
/-!
DEFINITION. The state of the machine as plain data (10_state R20: "the complete state of the machine is the
following, and nothing else"), with the parameters the spec gives the model as arguments (00_scope R5) and the
environment's answers to come, the ways a step can stop, and the state after reset (R43, R290).
-/

namespace Sys2Proof.Machine

/-- The seven 8-bit general registers (R21); the pairs BC, DE, HL are views of them (R22). -/
structure Regs where
  a : Byte
  b : Byte
  c : Byte
  d : Byte
  e : Byte
  h : Byte
  l : Byte
deriving DecidableEq, Repr

/-- The five flags (R27); the byte F is a view of them (R28). -/
structure Flags where
  s : Bool
  z : Bool
  ac : Bool
  p : Bool
  cy : Bool
deriving DecidableEq, Repr

/-- The 8085A's interrupt and serial register (R39): the three mask bits, 1 meaning masked, the RST 7.5 latch
and the serial output latch. On the 8080 no rule reads or writes it. -/
structure Serial85 where
  m55 : Bool
  m65 : Bool
  m75 : Bool
  i75 : Bool
  sod : Bool
deriving DecidableEq, Repr

/-- What the environment `IntEnv` reports at one step boundary (R255, R257), and the SID level (R241). -/
structure Pins where
  /-- INT (8080) or INTR (8085A): the bytes of the instruction the device would supply, `none` when there is
  no request (R258, R265). -/
  intr : Option (List Byte)
  /-- A TRAP request: the environment reports one per rising edge (R255, R259). -/
  trap : Bool
  /-- A rising edge on RST 7.5 since the last boundary (R39, R256). -/
  rst75 : Bool
  /-- The level of RST 6.5. -/
  rst65 : Bool
  /-- The level of RST 5.5. -/
  rst55 : Bool
  /-- The level of SID. -/
  sid : Bool
deriving DecidableEq, Repr

/-- No request, every input low. -/
def Pins.quiet : Pins :=
  { intr := none, trap := false, rst75 := false, rst65 := false, rst55 := false, sid := false }

/-- The observable events of a run (20_memory R57, 70_reset R293, 60_exceptions R272). -/
inductive IoEvent where
  /-- IN read this byte from this port. -/
  | portIn (port v : Byte)
  /-- OUT wrote this byte to this port. -/
  | portOut (port v : Byte)
  /-- RIM sampled SID at this level. -/
  | sidRead (level : Bool)
  /-- SIM wrote this level to SOD. -/
  | sodWrite (level : Bool)
deriving DecidableEq, Repr

/-- The model faults (R250): the machine itself raises none. -/
inductive Fault where
  /-- Raised by the meaning of `undefined`, and by RIM and SIM on the 8080, with the byte and its address
  (R84, R251). Safe: no claim can be proved of a program that goes on past such a byte. -/
  | undefinedOpcode (op : Byte) (pc0 : Word)
  /-- Raised by the acceptance of INT or INTR when the device supplies an instruction other than `RST n` and
  `CALL addr` (R252 (b), R265). Safe: no claim can be proved of a run in which a device does so. -/
  | intInstrRefused (supplied : List Byte)
deriving DecidableEq, Repr

/-- The refusals. -/
inductive Refusal where
  /-- Raised by an arm of `exec` whose instruction has no meaning yet; safe. Every instruction has one. -/
  | notModelled (mnemonic : String)
deriving DecidableEq, Repr

/-- Memory (R50): the listed cells, addresses strictly rising, none holding what an unlisted one reads as. -/
abbrev Memory := List Host.Cell

/-- The complete state. -/
structure State where
  /-- Which part this is (R5); no step changes it. -/
  variant : Variant
  /-- Which addresses are ram, rom or absent (R55): the first region that holds an address decides, an address
  in no region is ram; no step changes it. -/
  memMap : List Region
  /-- A, B, C, D, E, H, L (R21). -/
  regs : Regs
  /-- The stack pointer (R24). -/
  sp : Word
  /-- The program counter: between steps, the address of the next instruction (R25). -/
  pc : Word
  /-- S, Z, AC, P, CY (R27). -/
  flags : Flags
  /-- The interrupt enable flip-flop, INTE or IE (R36). -/
  inte : Bool
  /-- An EI has been executed and the instruction after it has not completed (R37). -/
  eiPending : Bool
  /-- The processor has executed HLT and is stopped (R38). -/
  halted : Bool
  /-- The 8085A's masks, RST 7.5 latch and SOD latch (R39). -/
  serial : Serial85
  /-- The recorded model fault, if any (R11, R250). -/
  fault : Option Fault
  /-- The 65 536 memory cells (R50). -/
  mem : Memory
  /-- The input levels reported at the last boundary (R42, R255). -/
  pins : Pins
  /-- The environment's reports at the coming boundaries, the next one first; when the list is used up no
  request comes and every input is low (R5, U7; log 8). -/
  schedule : List Pins
  /-- The environment's answers to the coming port reads, the next one first; when the list is used up each
  answer is a free value (R57, U11; log 7). -/
  portIn : List Byte
  /-- The observable events so far, the oldest first (R57, R293). -/
  trace : List IoEvent
  /-- The model's own: how many boundaries have been sampled, the counter of the free values (log 5). -/
  tick : Nat
deriving DecidableEq, Repr

/-- The machine right after reset: PC, INTE, `ei_pending`, `halted`, the masks, I7.5, SOD and `fault` as R43
and R290 state them. The spec leaves the registers, the flags, SP and RAM unspecified: 00h, DESIGN CHOICE, unsafe
(log 2, log 3). The variant is the 8085A, DESIGN CHOICE, unsafe (log 1); memory is all RAM, the default of R55;
the environment is the one that never requests anything (U7; log 8). -/
def State.reset : State where
  variant := .i8085A
  memMap := []
  regs := { a := 0, b := 0, c := 0, d := 0, e := 0, h := 0, l := 0 }
  sp := 0
  pc := 0
  flags := { s := false, z := false, ac := false, p := false, cy := false }
  inte := false
  eiPending := false
  halted := false
  serial := { m55 := true, m65 := true, m75 := true, i75 := false, sod := false }
  fault := none
  mem := []
  pins := Pins.quiet
  schedule := []
  portIn := []
  trace := []
  tick := 0

/-- What an instruction or a step answers. -/
abbrev Result := Host.Outcome State Fault Refusal

end Sys2Proof.Machine
end

