-- ==== Sys2Proof/Machine/Ops.lean ====
section
/-!
DEFINITION. The named operations over memory, stack, ports and the program counter, the frame every
instruction runs in (PC advance before, EI's completion step after), the entry to an interrupt handler and the
return from it, and the reset event.
-/

namespace Sys2Proof.Machine

/-! ### Memory as a list of cells -/

/-- The content of one cell; an unlisted one reads as `unlistedByte`. -/
def Memory.read : Memory → Nat → Byte
  | [], _ => unlistedByte
  | (b, v) :: m, a => if b = a then v else Memory.read m a

/-- The cells but the one at this address. -/
def Memory.erase (m : Memory) (a : Nat) : Memory := m.filter (fun cell => !(cell.1 == a))

/-- A cell put before the first one at a higher address. -/
def Memory.insert : Memory → Nat → Byte → Memory
  | [], a, v => [(a, v)]
  | (b, w) :: m, a, v => if a < b then (a, v) :: (b, w) :: m else (b, w) :: Memory.insert m a v

/-- Store one byte, keeping the canonical form: writing what an unlisted cell reads as removes the entry. -/
def Memory.write (m : Memory) (a : Nat) (v : Byte) : Memory :=
  if v = unlistedByte then Memory.erase m a else Memory.insert (Memory.erase m a) a v

/-- The canonical form from an address on: addresses strictly rising from `lo` and below 65 536 (R50), no cell
holding what an unlisted one reads as. -/
def Memory.wfFrom : Nat → Memory → Bool
  | _, [] => true
  | lo, (a, v) :: m => decide (lo ≤ a) && decide (a < 65536) && decide (v ≠ unlistedByte) && Memory.wfFrom (a + 1) m

/-- The canonical form: equal memories are equal lists. -/
def Memory.wf (m : Memory) : Bool := Memory.wfFrom 0 m

/-! ### The memory space of R55 -/

/-- The region holds this address. -/
def regionHolds (r : Region) (a : Nat) : Bool := decide (r.base ≤ a) && decide (a < r.base + r.size)

/-- What stands at an address (R55): the first region that holds it decides, `ram` where none does. -/
def kindIn (m : List Region) (a : Word) : CellKind :=
  match m.find? (fun r => regionHolds r a.toNat) with
  | some r => r.kind
  | none => .ram

/-- `MemMap(a)` (R55). -/
def State.cellKind (s : State) (a : Word) : CellKind := kindIn s.memMap a

/-- `MemRead(a, 1)` (R9, R55): the cell's content, or a fresh free byte where there is no cell. `isFetch` tells
the free values of an instruction's fetch from those of its data reads. -/
def State.busRead (s : State) (isFetch : Bool) (a : Word) : Byte :=
  match s.cellKind a with
  | .absent => Config.absentByte s.tick isFetch a
  | .ram => Memory.read s.mem a.toNat
  | .rom => Memory.read s.mem a.toNat

/-- `Fetch(a)` (R9): an instruction byte. -/
def State.fetchByte (s : State) (a : Word) : Byte := s.busRead true a

/-- `MemRead(a, 1)` (R9): a data byte. -/
def State.readByte (s : State) (a : Word) : Byte := s.busRead false a

/-- The memory after `MemWrite(a, 1, v)` (R55): a write is lost on rom and where there is no cell. -/
def State.memAfterWrite (s : State) (a : Word) (v : Byte) : Memory :=
  match s.cellKind a with
  | .ram => Memory.write s.mem a.toNat v
  | .rom => s.mem
  | .absent => s.mem

/-- `MemWrite(a, 1, v)` (R9, R55). -/
def State.writeByte (s : State) (a : Word) (v : Byte) : State := { s with mem := s.memAfterWrite a v }

/-- Two bytes from `a` and `a + 1`, the low byte first (R9, R54, R58). -/
def State.readWord (s : State) (a : Word) : Word := joinBytes (s.readByte (a + 1)) (s.readByte a)

/-! ### The stack (R183) -/

/-- `Push16` of the bytes `vh` and `vl`: SP is decremented before each write, the high byte first (R183). -/
def State.pushBytes (s : State) (vh vl : Byte) : State :=
  let s := { s with sp := s.sp - 1 }
  let s := s.writeByte s.sp vh
  let s := { s with sp := s.sp - 1 }
  s.writeByte s.sp vl

/-- `Push16(v)` (R183). -/
def State.push16 (s : State) (v : Word) : State := s.pushBytes (highByte v) (lowByte v)

/-- The value `Pop16()` returns: the bytes at SP and SP + 1, the low byte first (R183). -/
def State.topWord (s : State) : Word := s.readWord s.sp

/-- What `Pop16()` does to SP: one increment after each of the two reads (R183). -/
def State.dropWord (s : State) : State := { s with sp := s.sp + 1 + 1 }

/-! ### Ports (R57) -/

/-- `IoRead(port)`: the environment's next answer; a free value when State lists none (R57, U11). -/
def State.portAnswer (s : State) (port : Byte) : Byte :=
  match s.portIn with
  | v :: _ => v
  | [] => Config.portByte s.tick port

/-- Append one observable event, in program order (R57, R293). -/
def State.record (s : State) (e : IoEvent) : State := { s with trace := s.trace ++ [e] }

/-- The port read took the environment's next answer and is an event of the run (R57). -/
def State.takePortAnswer (s : State) (port : Byte) : State :=
  { s.record (.portIn port (s.portAnswer port)) with portIn := s.portIn.tail }

/-! ### The frame of an instruction -/

/-- The implicit `PC <- npc` at the start of every instruction (R12, R26). -/
def State.advance (s : State) (len : Word) : State := { s with pc := s.pc + len }

/-- What the completion step asks of an instruction (R235). -/
inductive InstrClass where
  | ordinary
  | ei
  | di
deriving DecidableEq, Repr

/-- The completion step, `complete(I)`, with the value `ei_pending` had when I was fetched (R235). -/
def State.complete (s : State) (cls : InstrClass) (eip0 : Bool) : State :=
  { s with
    inte := if eip0 && !(cls == .di) then true else s.inte
    eiPending := if cls == .ei then true else if eip0 then false else s.eiPending }

/-- One instruction of `len` bytes (R254, phases 3 and 4): PC advances, the operation runs, the instruction
completes. -/
def runInstr (cls : InstrClass) (len : Word) (op : State → State) (s : State) : Result :=
  .next ((op (s.advance len)).complete cls s.eiPending)

/-- An instruction that is neither EI nor DI. -/
def ordinary (len : Word) (op : State → State) (s : State) : Result := runInstr .ordinary len op s

/-- An instruction that only the 8085A has: on the 8080 its byte is an undefined opcode (R84, R251). -/
def only85 (op : Byte) (run : State → Result) (s : State) : Result :=
  match s.variant with
  | .i8080 => .fault (.undefinedOpcode op s.pc)
  | .i8085A => run s

/-! ### Taking an interrupt and returning from it -/

/-- The entry to an interrupt handler, the one way this machine takes an exception (R258, R259, R261, R262):
INTE, `ei_pending` and `halted` are cleared, PC is pushed as it stands, and PC goes to `target`. Nothing else is
saved or changed. -/
def State.enterHandler (s : State) (target : Word) : State :=
  { ({ s with inte := false, eiPending := false, halted := false } : State).push16 s.pc with pc := target }

/-- The return: `PC <- Pop16()` (R203). It restores PC alone; a handler enables interrupts again with EI
before it (R263). -/
def State.returnFromCall (s : State) : State := { s.dropWord with pc := s.topWord }

/-- `Push16(PC); PC <- target`, with PC already past the instruction (R194, R212). -/
def State.callTo (s : State) (target : Word) : State := { s.push16 s.pc with pc := target }

/-! ### Reset -/

/-- The reset event on any state (R290): what it does not name keeps what it held (`InitState`, R291). -/
def State.resetEvent (s : State) : State :=
  { s with
    pc := 0
    inte := false
    eiPending := false
    halted := false
    serial :=
      match s.variant with
      | .i8080 => s.serial
      | .i8085A => { m55 := true, m65 := true, m75 := true, i75 := false, sod := false }
    fault := none }

/-- The state a run that met a fault ends in: as before the faulting step, the fault recorded (R11, R250). -/
def State.recordFault (s : State) (f : Fault) : State := { s with fault := some f }

end Sys2Proof.Machine
end

