-- ==== Sys2Proof/Machine/Operands.lean ====
section
/-!
DEFINITION. Every operand form: registers by name (R74), pairs (R75), the memory operand M (R15, R50), and the
eight conditions (R180).
-/

namespace Sys2Proof.Machine

/-- `x[c]` (R8): a register by its name. -/
def Regs.get (r : Regs) : Reg8 → Byte
  | .a => r.a
  | .b => r.b
  | .c => r.c
  | .d => r.d
  | .e => r.e
  | .h => r.h
  | .l => r.l

/-- `x[c] <- v` (R8). -/
def Regs.set (r : Regs) (x : Reg8) (v : Byte) : Regs :=
  match x with
  | .a => { r with a := v }
  | .b => { r with b := v }
  | .c => { r with c := v }
  | .d => { r with d := v }
  | .e => { r with e := v }
  | .h => { r with h := v }
  | .l => { r with l := v }

/-- A register operand as a source. -/
def State.reg (s : State) (x : Reg8) : Byte := s.regs.get x

/-- A register operand as a destination. -/
def State.setReg (s : State) (x : Reg8) (v : Byte) : State := { s with regs := s.regs.set x v }

/-- `B ++ C` (R8, R22). -/
def State.bc (s : State) : Word := joinBytes s.regs.b s.regs.c

/-- `D ++ E` (R8, R22). -/
def State.de (s : State) : Word := joinBytes s.regs.d s.regs.e

/-- `H ++ L` (R8, R22). -/
def State.hl (s : State) : Word := joinBytes s.regs.h s.regs.l

/-- `rp[c]` (R8). -/
def State.pair (s : State) : RegPair → Word
  | .bc => s.bc
  | .de => s.de
  | .hl => s.hl
  | .sp => s.sp

/-- `rp[c] <- v` (R8): the high byte to the first-named register, the low byte to the second, or the whole to
SP. -/
def State.setPair (s : State) (x : RegPair) (v : Word) : State :=
  match x with
  | .bc => { s with regs := { s.regs with b := highByte v, c := lowByte v } }
  | .de => { s with regs := { s.regs with d := highByte v, e := lowByte v } }
  | .hl => { s with regs := { s.regs with h := highByte v, l := lowByte v } }
  | .sp => { s with sp := v }

/-- The value of the memory operand M: the cell at HL (R15, R50). -/
def State.mOperand (s : State) : Byte := s.readByte s.hl

/-- The memory operand M as a destination. -/
def State.setM (s : State) (v : Byte) : State := s.writeByte s.hl v

/-- `cond(CCC)` on the flags at the start of the instruction (R34, R180). -/
def Flags.holds (f : Flags) : Cond → Bool
  | .nz => f.z == false
  | .z => f.z == true
  | .nc => f.cy == false
  | .c => f.cy == true
  | .po => f.p == false
  | .pe => f.p == true
  | .p => f.s == false
  | .m => f.s == true

end Sys2Proof.Machine
end

