-- ==== Sys2Proof/Machine/Flags.lean ====
section
/-!
DEFINITION. Every flag computation (10_state R27 to R35), with the helpers the spec defines them by: `par` (R7,
R31), ADD8 (R120), SUB8 (R121), LOGIC (R150), AC after AND (R151), INR and DCR (R134, R136), DAA (R147), and the
byte F (R28).
-/

namespace Sys2Proof.Machine

/-- How many bits of a byte are one. -/
def onesCount (v : Byte) : Nat :=
  (v.getLsbD 0).toNat + (v.getLsbD 1).toNat + (v.getLsbD 2).toNat + (v.getLsbD 3).toNat
    + (v.getLsbD 4).toNat + (v.getLsbD 5).toNat + (v.getLsbD 6).toNat + (v.getLsbD 7).toNat

/-- `par(v)`: 1 when `v` has an even number of one bits (R7, R31). -/
def par (v : Byte) : Bool := onesCount v % 2 == 0

/-- `v[3:0]` as a number. -/
def lowNibble (v : Byte) : Nat := v.toNat % 16

/-- `v[7:4]` as a number. -/
def highNibble (v : Byte) : Nat := v.toNat / 16

/-- The byte F: `S Z 0 AC 0 P 1 CY`, bit 7 first (R28). -/
def Flags.toByte (f : Flags) : Byte :=
  BitVec.ofBool f.s ++ BitVec.ofBool f.z ++ 0#1 ++ BitVec.ofBool f.ac ++ 0#1 ++ BitVec.ofBool f.p ++ 1#1
    ++ BitVec.ofBool f.cy

/-- The flags a byte popped into F leaves: bits 7, 6, 4, 2, 0; bits 5, 3 and 1 are ignored (R28, R223). -/
def Flags.ofByte (b : Byte) : Flags :=
  { s := b.getLsbD 7, z := b.getLsbD 6, ac := b.getLsbD 4, p := b.getLsbD 2, cy := b.getLsbD 0 }

/-- A result byte and the flags that come with it. -/
structure AluOut where
  res : Byte
  flags : Flags
deriving DecidableEq, Repr

/-- `ADD8(a, v, c)` (R120). -/
def add8 (a v : Byte) (c : Bool) : AluOut :=
  let sum9 : BitVec 9 := a.setWidth 9 + v.setWidth 9 + (BitVec.ofBool c).setWidth 9
  let res : Byte := sum9.setWidth 8
  { res := res
    flags :=
      { s := res.getLsbD 7
        z := res == 0
        ac := decide (lowNibble a + lowNibble v + c.toNat > 15)
        p := par res
        cy := sum9.getLsbD 8 } }

/-- `SUB8(a, v, b)` (R121). -/
def sub8 (a v : Byte) (b : Bool) : AluOut :=
  let diff9 : BitVec 9 := a.setWidth 9 - v.setWidth 9 - (BitVec.ofBool b).setWidth 9
  let res : Byte := diff9.setWidth 8
  { res := res
    flags :=
      { s := res.getLsbD 7
        z := res == 0
        ac := decide (lowNibble a + lowNibble (~~~v) + (1 - b.toNat) > 15)
        p := par res
        cy := diff9.getLsbD 8 } }

/-- The flags of `LOGIC(res, ac)` (R150). -/
def logicFlags (res : Byte) (ac : Bool) : Flags :=
  { s := res.getLsbD 7, z := res == 0, ac := ac, p := par res, cy := false }

/-- AC after ANA and ANI, from the operands before the operation (R151). -/
def andAc (variant : Variant) (a v : Byte) : Bool :=
  match variant with
  | .i8080 => (a ||| v).getLsbD 3
  | .i8085A => true

/-- The flags of INR: S, Z, AC, P from the result, CY kept (R134). -/
def incFlags (res : Byte) (old : Flags) : Flags :=
  { s := res.getLsbD 7, z := res == 0, ac := lowNibble res == 0, p := par res, cy := old.cy }

/-- The flags of DCR: S, Z, AC, P from the result, CY kept (R136). -/
def decFlags (res : Byte) (old : Flags) : Flags :=
  { s := res.getLsbD 7, z := res == 0, ac := !(lowNibble res == 15), p := par res, cy := old.cy }

/-- DAA adds 06h: AC is 1 or the low digit is above 9 (R147). -/
def daaLow (a : Byte) (f : Flags) : Bool := f.ac || decide (lowNibble a > 9)

/-- DAA adds 60h and sets CY: CY is 1, or the high digit is above 9, or it is 9 with a low digit above 9
(R147). -/
def daaHigh (a : Byte) (f : Flags) : Bool :=
  f.cy || decide (highNibble a > 9) || (decide (highNibble a ≥ 9) && decide (lowNibble a > 9))

/-- DAA's correction byte (R147). -/
def daaCorr (a : Byte) (f : Flags) : Byte :=
  (if daaLow a f then 0x06#8 else 0x00#8) + (if daaHigh a f then 0x60#8 else 0x00#8)

/-- DAA: the adjusted A, with S, Z, P and AC of the correcting addition and CY set or kept (R147). -/
def daa8 (a : Byte) (f : Flags) : AluOut :=
  let o := add8 a (daaCorr a f) false
  { res := o.res, flags := { o.flags with cy := f.cy || daaHigh a f } }

end Sys2Proof.Machine
end

