-- ==== Sys2Proof/Machine/Arithmetic.lean ====
section
/-!
DEFINITION. Arithmetic (41_arithmetic, R120 to R147): addition, subtraction, increment, decrement, DAD, DAA.
-/

namespace Sys2Proof.Machine

/-- `A <- ADD8(A, v, c)` (R120, R122). -/
def State.accAdd (s : State) (v : Byte) (c : Bool) : State :=
  { s with regs := { s.regs with a := (add8 s.regs.a v c).res }, flags := (add8 s.regs.a v c).flags }

/-- `A <- SUB8(A, v, b)` (R121, R128). -/
def State.accSub (s : State) (v : Byte) (b : Bool) : State :=
  { s with regs := { s.regs with a := (sub8 s.regs.a v b).res }, flags := (sub8 s.regs.a v b).flags }

/-- INR r: the register and the flags of its new value (R134). -/
def State.incReg (s : State) (x : Reg8) : State :=
  { s.setReg x (s.reg x + 1) with flags := incFlags (s.reg x + 1) s.flags }

/-- INR M: one read and one write of the cell at HL; the flags come from the computed value even where the cell
does not change (R135). -/
def State.incM (s : State) : State :=
  { s.setM (s.mOperand + 1) with flags := incFlags (s.mOperand + 1) s.flags }

/-- DCR r (R136). -/
def State.decReg (s : State) (x : Reg8) : State :=
  { s.setReg x (s.reg x - 1) with flags := decFlags (s.reg x - 1) s.flags }

/-- DCR M (R137). -/
def State.decM (s : State) : State :=
  { s.setM (s.mOperand - 1) with flags := decFlags (s.mOperand - 1) s.flags }

/-- The exact 17-bit sum of DAD (R140). -/
def sum17 (x y : Word) : BitVec 17 := x.setWidth 17 + y.setWidth 17

/-- DAD: HL takes the low 16 bits of the sum, CY its bit 16, no other flag changes (R140). -/
def State.addToHL (s : State) (v : Word) : State :=
  { s.setPair .hl ((sum17 s.hl v).setWidth 16) with flags := { s.flags with cy := (sum17 s.hl v).getLsbD 16 } }

/-- DAA (R147). -/
def State.accDecimalAdjust (s : State) : State :=
  { s with regs := { s.regs with a := (daa8 s.regs.a s.flags).res }, flags := (daa8 s.regs.a s.flags).flags }

/-- ADD B, byte 80h: R122. -/
def execAddB (s : State) : Result := ordinary 1 (fun s => s.accAdd (s.reg .b) false) s

/-- ADD C, byte 81h: R122. -/
def execAddC (s : State) : Result := ordinary 1 (fun s => s.accAdd (s.reg .c) false) s

/-- ADD D, byte 82h: R122. -/
def execAddD (s : State) : Result := ordinary 1 (fun s => s.accAdd (s.reg .d) false) s

/-- ADD E, byte 83h: R122. -/
def execAddE (s : State) : Result := ordinary 1 (fun s => s.accAdd (s.reg .e) false) s

/-- ADD H, byte 84h: R122. -/
def execAddH (s : State) : Result := ordinary 1 (fun s => s.accAdd (s.reg .h) false) s

/-- ADD L, byte 85h: R122. -/
def execAddL (s : State) : Result := ordinary 1 (fun s => s.accAdd (s.reg .l) false) s

/-- ADD A, byte 87h: R122. -/
def execAddA (s : State) : Result := ordinary 1 (fun s => s.accAdd (s.reg .a) false) s

/-- ADD M, byte 86h: R124. -/
def execAddM (s : State) : Result := ordinary 1 (fun s => s.accAdd s.mOperand false) s

/-- ADI d8, byte C6h: R123. -/
def execAdi (d8 : Byte) (s : State) : Result := ordinary 2 (fun s => s.accAdd d8 false) s

/-- ADC B, byte 88h: R125. -/
def execAdcB (s : State) : Result := ordinary 1 (fun s => s.accAdd (s.reg .b) s.flags.cy) s

/-- ADC C, byte 89h: R125. -/
def execAdcC (s : State) : Result := ordinary 1 (fun s => s.accAdd (s.reg .c) s.flags.cy) s

/-- ADC D, byte 8Ah: R125. -/
def execAdcD (s : State) : Result := ordinary 1 (fun s => s.accAdd (s.reg .d) s.flags.cy) s

/-- ADC E, byte 8Bh: R125. -/
def execAdcE (s : State) : Result := ordinary 1 (fun s => s.accAdd (s.reg .e) s.flags.cy) s

/-- ADC H, byte 8Ch: R125. -/
def execAdcH (s : State) : Result := ordinary 1 (fun s => s.accAdd (s.reg .h) s.flags.cy) s

/-- ADC L, byte 8Dh: R125. -/
def execAdcL (s : State) : Result := ordinary 1 (fun s => s.accAdd (s.reg .l) s.flags.cy) s

/-- ADC A, byte 8Fh: R125. -/
def execAdcA (s : State) : Result := ordinary 1 (fun s => s.accAdd (s.reg .a) s.flags.cy) s

/-- ADC M, byte 8Eh: R126. -/
def execAdcM (s : State) : Result := ordinary 1 (fun s => s.accAdd s.mOperand s.flags.cy) s

/-- ACI d8, byte CEh: R127. -/
def execAci (d8 : Byte) (s : State) : Result := ordinary 2 (fun s => s.accAdd d8 s.flags.cy) s

/-- SUB B, byte 90h: R128. -/
def execSubB (s : State) : Result := ordinary 1 (fun s => s.accSub (s.reg .b) false) s

/-- SUB C, byte 91h: R128. -/
def execSubC (s : State) : Result := ordinary 1 (fun s => s.accSub (s.reg .c) false) s

/-- SUB D, byte 92h: R128. -/
def execSubD (s : State) : Result := ordinary 1 (fun s => s.accSub (s.reg .d) false) s

/-- SUB E, byte 93h: R128. -/
def execSubE (s : State) : Result := ordinary 1 (fun s => s.accSub (s.reg .e) false) s

/-- SUB H, byte 94h: R128. -/
def execSubH (s : State) : Result := ordinary 1 (fun s => s.accSub (s.reg .h) false) s

/-- SUB L, byte 95h: R128. -/
def execSubL (s : State) : Result := ordinary 1 (fun s => s.accSub (s.reg .l) false) s

/-- SUB A, byte 97h: R128. -/
def execSubA (s : State) : Result := ordinary 1 (fun s => s.accSub (s.reg .a) false) s

/-- SUB M, byte 96h: R130. -/
def execSubM (s : State) : Result := ordinary 1 (fun s => s.accSub s.mOperand false) s

/-- SUI d8, byte D6h: R129. -/
def execSui (d8 : Byte) (s : State) : Result := ordinary 2 (fun s => s.accSub d8 false) s

/-- SBB B, byte 98h: R131. -/
def execSbbB (s : State) : Result := ordinary 1 (fun s => s.accSub (s.reg .b) s.flags.cy) s

/-- SBB C, byte 99h: R131. -/
def execSbbC (s : State) : Result := ordinary 1 (fun s => s.accSub (s.reg .c) s.flags.cy) s

/-- SBB D, byte 9Ah: R131. -/
def execSbbD (s : State) : Result := ordinary 1 (fun s => s.accSub (s.reg .d) s.flags.cy) s

/-- SBB E, byte 9Bh: R131. -/
def execSbbE (s : State) : Result := ordinary 1 (fun s => s.accSub (s.reg .e) s.flags.cy) s

/-- SBB H, byte 9Ch: R131. -/
def execSbbH (s : State) : Result := ordinary 1 (fun s => s.accSub (s.reg .h) s.flags.cy) s

/-- SBB L, byte 9Dh: R131. -/
def execSbbL (s : State) : Result := ordinary 1 (fun s => s.accSub (s.reg .l) s.flags.cy) s

/-- SBB A, byte 9Fh: R131. -/
def execSbbA (s : State) : Result := ordinary 1 (fun s => s.accSub (s.reg .a) s.flags.cy) s

/-- SBB M, byte 9Eh: R133. -/
def execSbbM (s : State) : Result := ordinary 1 (fun s => s.accSub s.mOperand s.flags.cy) s

/-- SBI d8, byte DEh: R132. -/
def execSbi (d8 : Byte) (s : State) : Result := ordinary 2 (fun s => s.accSub d8 s.flags.cy) s

/-- INR B, byte 04h: R134. -/
def execInrB (s : State) : Result := ordinary 1 (fun s => s.incReg .b) s

/-- INR C, byte 0Ch: R134. -/
def execInrC (s : State) : Result := ordinary 1 (fun s => s.incReg .c) s

/-- INR D, byte 14h: R134. -/
def execInrD (s : State) : Result := ordinary 1 (fun s => s.incReg .d) s

/-- INR E, byte 1Ch: R134. -/
def execInrE (s : State) : Result := ordinary 1 (fun s => s.incReg .e) s

/-- INR H, byte 24h: R134. -/
def execInrH (s : State) : Result := ordinary 1 (fun s => s.incReg .h) s

/-- INR L, byte 2Ch: R134. -/
def execInrL (s : State) : Result := ordinary 1 (fun s => s.incReg .l) s

/-- INR A, byte 3Ch: R134. -/
def execInrA (s : State) : Result := ordinary 1 (fun s => s.incReg .a) s

/-- INR M, byte 34h: R135. -/
def execInrM (s : State) : Result := ordinary 1 (fun s => s.incM) s

/-- DCR B, byte 05h: R136. -/
def execDcrB (s : State) : Result := ordinary 1 (fun s => s.decReg .b) s

/-- DCR C, byte 0Dh: R136. -/
def execDcrC (s : State) : Result := ordinary 1 (fun s => s.decReg .c) s

/-- DCR D, byte 15h: R136. -/
def execDcrD (s : State) : Result := ordinary 1 (fun s => s.decReg .d) s

/-- DCR E, byte 1Dh: R136. -/
def execDcrE (s : State) : Result := ordinary 1 (fun s => s.decReg .e) s

/-- DCR H, byte 25h: R136. -/
def execDcrH (s : State) : Result := ordinary 1 (fun s => s.decReg .h) s

/-- DCR L, byte 2Dh: R136. -/
def execDcrL (s : State) : Result := ordinary 1 (fun s => s.decReg .l) s

/-- DCR A, byte 3Dh: R136. -/
def execDcrA (s : State) : Result := ordinary 1 (fun s => s.decReg .a) s

/-- DCR M, byte 35h: R137. -/
def execDcrM (s : State) : Result := ordinary 1 (fun s => s.decM) s

/-- INX B, byte 03h: R138. -/
def execInxB (s : State) : Result := ordinary 1 (fun s => s.setPair .bc (s.pair .bc + 1)) s

/-- INX D, byte 13h: R138. -/
def execInxD (s : State) : Result := ordinary 1 (fun s => s.setPair .de (s.pair .de + 1)) s

/-- INX H, byte 23h: R138. -/
def execInxH (s : State) : Result := ordinary 1 (fun s => s.setPair .hl (s.pair .hl + 1)) s

/-- INX SP, byte 33h: R138. -/
def execInxSp (s : State) : Result := ordinary 1 (fun s => s.setPair .sp (s.pair .sp + 1)) s

/-- DCX B, byte 0Bh: R139. -/
def execDcxB (s : State) : Result := ordinary 1 (fun s => s.setPair .bc (s.pair .bc - 1)) s

/-- DCX D, byte 1Bh: R139. -/
def execDcxD (s : State) : Result := ordinary 1 (fun s => s.setPair .de (s.pair .de - 1)) s

/-- DCX H, byte 2Bh: R139. -/
def execDcxH (s : State) : Result := ordinary 1 (fun s => s.setPair .hl (s.pair .hl - 1)) s

/-- DCX SP, byte 3Bh: R139. -/
def execDcxSp (s : State) : Result := ordinary 1 (fun s => s.setPair .sp (s.pair .sp - 1)) s

/-- DAD B, byte 09h: R140. -/
def execDadB (s : State) : Result := ordinary 1 (fun s => s.addToHL (s.pair .bc)) s

/-- DAD D, byte 19h: R140. -/
def execDadD (s : State) : Result := ordinary 1 (fun s => s.addToHL (s.pair .de)) s

/-- DAD H, byte 29h: R140. -/
def execDadH (s : State) : Result := ordinary 1 (fun s => s.addToHL (s.pair .hl)) s

/-- DAD SP, byte 39h: R140. -/
def execDadSp (s : State) : Result := ordinary 1 (fun s => s.addToHL (s.pair .sp)) s

/-- DAA, byte 27h: R147. -/
def execDaa (s : State) : Result := ordinary 1 (fun s => s.accDecimalAdjust) s

end Sys2Proof.Machine
end

