-- ==== Sys2Proof/Machine/Branch.lean ====
section
/-!
DEFINITION. Control transfer (43_branch, R180 to R213): no instruction of this family changes a flag.
-/

namespace Sys2Proof.Machine

/-- `PC <- target` (R184). -/
def State.jumpTo (s : State) (target : Word) : State := { s with pc := target }

/-- A conditional jump; with a false condition PC stays past the instruction (R182 (d), R185). -/
def State.jumpIf (s : State) (cond : Cond) (target : Word) : State :=
  if s.flags.holds cond then s.jumpTo target else s

/-- A conditional call; with a false condition no stack access is made (R182 (d), R195). -/
def State.callIf (s : State) (cond : Cond) (target : Word) : State :=
  if s.flags.holds cond then s.callTo target else s

/-- A conditional return; with a false condition the stack is not read (R182 (d), R204). -/
def State.returnIf (s : State) (cond : Cond) : State :=
  if s.flags.holds cond then s.returnFromCall else s

/-- `8 × n` as a 16-bit address (R212). -/
def rstTarget (n : Nat) : Word := BitVec.ofNat 16 (8 * n)

/-- JMP addr, byte C3h: R184. -/
def execJmp (addr : Word) (s : State) : Result := ordinary 3 (fun s => s.jumpTo addr) s

/-- JNZ addr, byte C2h: R185. -/
def execJnz (addr : Word) (s : State) : Result := ordinary 3 (fun s => s.jumpIf .nz addr) s

/-- JZ addr, byte CAh: R186. -/
def execJz (addr : Word) (s : State) : Result := ordinary 3 (fun s => s.jumpIf .z addr) s

/-- JNC addr, byte D2h: R187. -/
def execJnc (addr : Word) (s : State) : Result := ordinary 3 (fun s => s.jumpIf .nc addr) s

/-- JC addr, byte DAh: R188. -/
def execJc (addr : Word) (s : State) : Result := ordinary 3 (fun s => s.jumpIf .c addr) s

/-- JPO addr, byte E2h: R189. -/
def execJpo (addr : Word) (s : State) : Result := ordinary 3 (fun s => s.jumpIf .po addr) s

/-- JPE addr, byte EAh: R190. -/
def execJpe (addr : Word) (s : State) : Result := ordinary 3 (fun s => s.jumpIf .pe addr) s

/-- JP addr, byte F2h: R191. -/
def execJp (addr : Word) (s : State) : Result := ordinary 3 (fun s => s.jumpIf .p addr) s

/-- JM addr, byte FAh: R192. -/
def execJm (addr : Word) (s : State) : Result := ordinary 3 (fun s => s.jumpIf .m addr) s

/-- PCHL, byte E9h: R193. -/
def execPchl (s : State) : Result := ordinary 1 (fun s => s.jumpTo s.hl) s

/-- CALL addr, byte CDh: R194. -/
def execCall (addr : Word) (s : State) : Result := ordinary 3 (fun s => s.callTo addr) s

/-- CNZ addr, byte C4h: R195. -/
def execCnz (addr : Word) (s : State) : Result := ordinary 3 (fun s => s.callIf .nz addr) s

/-- CZ addr, byte CCh: R196. -/
def execCz (addr : Word) (s : State) : Result := ordinary 3 (fun s => s.callIf .z addr) s

/-- CNC addr, byte D4h: R197. -/
def execCnc (addr : Word) (s : State) : Result := ordinary 3 (fun s => s.callIf .nc addr) s

/-- CC addr, byte DCh: R198. -/
def execCc (addr : Word) (s : State) : Result := ordinary 3 (fun s => s.callIf .c addr) s

/-- CPO addr, byte E4h: R199. -/
def execCpo (addr : Word) (s : State) : Result := ordinary 3 (fun s => s.callIf .po addr) s

/-- CPE addr, byte ECh: R200. -/
def execCpe (addr : Word) (s : State) : Result := ordinary 3 (fun s => s.callIf .pe addr) s

/-- CP addr, byte F4h: R201. -/
def execCp (addr : Word) (s : State) : Result := ordinary 3 (fun s => s.callIf .p addr) s

/-- CM addr, byte FCh: R202. -/
def execCm (addr : Word) (s : State) : Result := ordinary 3 (fun s => s.callIf .m addr) s

/-- RET, byte C9h: R203. -/
def execRet (s : State) : Result := ordinary 1 (fun s => s.returnFromCall) s

/-- RNZ, byte C0h: R204. -/
def execRnz (s : State) : Result := ordinary 1 (fun s => s.returnIf .nz) s

/-- RZ, byte C8h: R205. -/
def execRz (s : State) : Result := ordinary 1 (fun s => s.returnIf .z) s

/-- RNC, byte D0h: R206. -/
def execRnc (s : State) : Result := ordinary 1 (fun s => s.returnIf .nc) s

/-- RC, byte D8h: R207. -/
def execRc (s : State) : Result := ordinary 1 (fun s => s.returnIf .c) s

/-- RPO, byte E0h: R208. -/
def execRpo (s : State) : Result := ordinary 1 (fun s => s.returnIf .po) s

/-- RPE, byte E8h: R209. -/
def execRpe (s : State) : Result := ordinary 1 (fun s => s.returnIf .pe) s

/-- RP, byte F0h: R210. -/
def execRp (s : State) : Result := ordinary 1 (fun s => s.returnIf .p) s

/-- RM, byte F8h: R211. -/
def execRm (s : State) : Result := ordinary 1 (fun s => s.returnIf .m) s

/-- RST 0, byte C7h: R212. -/
def execRst0 (s : State) : Result := ordinary 1 (fun s => s.callTo (rstTarget 0)) s

/-- RST 1, byte CFh: R212. -/
def execRst1 (s : State) : Result := ordinary 1 (fun s => s.callTo (rstTarget 1)) s

/-- RST 2, byte D7h: R212. -/
def execRst2 (s : State) : Result := ordinary 1 (fun s => s.callTo (rstTarget 2)) s

/-- RST 3, byte DFh: R212. -/
def execRst3 (s : State) : Result := ordinary 1 (fun s => s.callTo (rstTarget 3)) s

/-- RST 4, byte E7h: R212. -/
def execRst4 (s : State) : Result := ordinary 1 (fun s => s.callTo (rstTarget 4)) s

/-- RST 5, byte EFh: R212. -/
def execRst5 (s : State) : Result := ordinary 1 (fun s => s.callTo (rstTarget 5)) s

/-- RST 6, byte F7h: R212. -/
def execRst6 (s : State) : Result := ordinary 1 (fun s => s.callTo (rstTarget 6)) s

/-- RST 7, byte FFh: R212. -/
def execRst7 (s : State) : Result := ordinary 1 (fun s => s.callTo (rstTarget 7)) s

end Sys2Proof.Machine
end

