-- ==== Sys2Proof/Machine/DataTransfer.lean ====
section
/-!
DEFINITION. Data transfer (40_data_transfer, R100 to R113): no instruction of this family touches a flag.
-/

namespace Sys2Proof.Machine

/-- SHLD's two stores: L at `a`, then H at `a + 1` (R110). -/
def State.storeHL (s : State) (a : Word) : State := (s.writeByte a s.regs.l).writeByte (a + 1) s.regs.h

/-- XCHG: H with D, L with E (R113). -/
def State.exchangeDEHL (s : State) : State :=
  { s with regs := { s.regs with h := s.regs.d, l := s.regs.e, d := s.regs.h, e := s.regs.l } }

/-- MOV B, B, byte 40h: R101. -/
def execMovBB (s : State) : Result := ordinary 1 (fun s => s.setReg .b (s.reg .b)) s

/-- MOV B, C, byte 41h: R101. -/
def execMovBC (s : State) : Result := ordinary 1 (fun s => s.setReg .b (s.reg .c)) s

/-- MOV B, D, byte 42h: R101. -/
def execMovBD (s : State) : Result := ordinary 1 (fun s => s.setReg .b (s.reg .d)) s

/-- MOV B, E, byte 43h: R101. -/
def execMovBE (s : State) : Result := ordinary 1 (fun s => s.setReg .b (s.reg .e)) s

/-- MOV B, H, byte 44h: R101. -/
def execMovBH (s : State) : Result := ordinary 1 (fun s => s.setReg .b (s.reg .h)) s

/-- MOV B, L, byte 45h: R101. -/
def execMovBL (s : State) : Result := ordinary 1 (fun s => s.setReg .b (s.reg .l)) s

/-- MOV B, A, byte 47h: R101. -/
def execMovBA (s : State) : Result := ordinary 1 (fun s => s.setReg .b (s.reg .a)) s

/-- MOV C, B, byte 48h: R101. -/
def execMovCB (s : State) : Result := ordinary 1 (fun s => s.setReg .c (s.reg .b)) s

/-- MOV C, C, byte 49h: R101. -/
def execMovCC (s : State) : Result := ordinary 1 (fun s => s.setReg .c (s.reg .c)) s

/-- MOV C, D, byte 4Ah: R101. -/
def execMovCD (s : State) : Result := ordinary 1 (fun s => s.setReg .c (s.reg .d)) s

/-- MOV C, E, byte 4Bh: R101. -/
def execMovCE (s : State) : Result := ordinary 1 (fun s => s.setReg .c (s.reg .e)) s

/-- MOV C, H, byte 4Ch: R101. -/
def execMovCH (s : State) : Result := ordinary 1 (fun s => s.setReg .c (s.reg .h)) s

/-- MOV C, L, byte 4Dh: R101. -/
def execMovCL (s : State) : Result := ordinary 1 (fun s => s.setReg .c (s.reg .l)) s

/-- MOV C, A, byte 4Fh: R101. -/
def execMovCA (s : State) : Result := ordinary 1 (fun s => s.setReg .c (s.reg .a)) s

/-- MOV D, B, byte 50h: R101. -/
def execMovDB (s : State) : Result := ordinary 1 (fun s => s.setReg .d (s.reg .b)) s

/-- MOV D, C, byte 51h: R101. -/
def execMovDC (s : State) : Result := ordinary 1 (fun s => s.setReg .d (s.reg .c)) s

/-- MOV D, D, byte 52h: R101. -/
def execMovDD (s : State) : Result := ordinary 1 (fun s => s.setReg .d (s.reg .d)) s

/-- MOV D, E, byte 53h: R101. -/
def execMovDE (s : State) : Result := ordinary 1 (fun s => s.setReg .d (s.reg .e)) s

/-- MOV D, H, byte 54h: R101. -/
def execMovDH (s : State) : Result := ordinary 1 (fun s => s.setReg .d (s.reg .h)) s

/-- MOV D, L, byte 55h: R101. -/
def execMovDL (s : State) : Result := ordinary 1 (fun s => s.setReg .d (s.reg .l)) s

/-- MOV D, A, byte 57h: R101. -/
def execMovDA (s : State) : Result := ordinary 1 (fun s => s.setReg .d (s.reg .a)) s

/-- MOV E, B, byte 58h: R101. -/
def execMovEB (s : State) : Result := ordinary 1 (fun s => s.setReg .e (s.reg .b)) s

/-- MOV E, C, byte 59h: R101. -/
def execMovEC (s : State) : Result := ordinary 1 (fun s => s.setReg .e (s.reg .c)) s

/-- MOV E, D, byte 5Ah: R101. -/
def execMovED (s : State) : Result := ordinary 1 (fun s => s.setReg .e (s.reg .d)) s

/-- MOV E, E, byte 5Bh: R101. -/
def execMovEE (s : State) : Result := ordinary 1 (fun s => s.setReg .e (s.reg .e)) s

/-- MOV E, H, byte 5Ch: R101. -/
def execMovEH (s : State) : Result := ordinary 1 (fun s => s.setReg .e (s.reg .h)) s

/-- MOV E, L, byte 5Dh: R101. -/
def execMovEL (s : State) : Result := ordinary 1 (fun s => s.setReg .e (s.reg .l)) s

/-- MOV E, A, byte 5Fh: R101. -/
def execMovEA (s : State) : Result := ordinary 1 (fun s => s.setReg .e (s.reg .a)) s

/-- MOV H, B, byte 60h: R101. -/
def execMovHB (s : State) : Result := ordinary 1 (fun s => s.setReg .h (s.reg .b)) s

/-- MOV H, C, byte 61h: R101. -/
def execMovHC (s : State) : Result := ordinary 1 (fun s => s.setReg .h (s.reg .c)) s

/-- MOV H, D, byte 62h: R101. -/
def execMovHD (s : State) : Result := ordinary 1 (fun s => s.setReg .h (s.reg .d)) s

/-- MOV H, E, byte 63h: R101. -/
def execMovHE (s : State) : Result := ordinary 1 (fun s => s.setReg .h (s.reg .e)) s

/-- MOV H, H, byte 64h: R101. -/
def execMovHH (s : State) : Result := ordinary 1 (fun s => s.setReg .h (s.reg .h)) s

/-- MOV H, L, byte 65h: R101. -/
def execMovHL (s : State) : Result := ordinary 1 (fun s => s.setReg .h (s.reg .l)) s

/-- MOV H, A, byte 67h: R101. -/
def execMovHA (s : State) : Result := ordinary 1 (fun s => s.setReg .h (s.reg .a)) s

/-- MOV L, B, byte 68h: R101. -/
def execMovLB (s : State) : Result := ordinary 1 (fun s => s.setReg .l (s.reg .b)) s

/-- MOV L, C, byte 69h: R101. -/
def execMovLC (s : State) : Result := ordinary 1 (fun s => s.setReg .l (s.reg .c)) s

/-- MOV L, D, byte 6Ah: R101. -/
def execMovLD (s : State) : Result := ordinary 1 (fun s => s.setReg .l (s.reg .d)) s

/-- MOV L, E, byte 6Bh: R101. -/
def execMovLE (s : State) : Result := ordinary 1 (fun s => s.setReg .l (s.reg .e)) s

/-- MOV L, H, byte 6Ch: R101. -/
def execMovLH (s : State) : Result := ordinary 1 (fun s => s.setReg .l (s.reg .h)) s

/-- MOV L, L, byte 6Dh: R101. -/
def execMovLL (s : State) : Result := ordinary 1 (fun s => s.setReg .l (s.reg .l)) s

/-- MOV L, A, byte 6Fh: R101. -/
def execMovLA (s : State) : Result := ordinary 1 (fun s => s.setReg .l (s.reg .a)) s

/-- MOV A, B, byte 78h: R101. -/
def execMovAB (s : State) : Result := ordinary 1 (fun s => s.setReg .a (s.reg .b)) s

/-- MOV A, C, byte 79h: R101. -/
def execMovAC (s : State) : Result := ordinary 1 (fun s => s.setReg .a (s.reg .c)) s

/-- MOV A, D, byte 7Ah: R101. -/
def execMovAD (s : State) : Result := ordinary 1 (fun s => s.setReg .a (s.reg .d)) s

/-- MOV A, E, byte 7Bh: R101. -/
def execMovAE (s : State) : Result := ordinary 1 (fun s => s.setReg .a (s.reg .e)) s

/-- MOV A, H, byte 7Ch: R101. -/
def execMovAH (s : State) : Result := ordinary 1 (fun s => s.setReg .a (s.reg .h)) s

/-- MOV A, L, byte 7Dh: R101. -/
def execMovAL (s : State) : Result := ordinary 1 (fun s => s.setReg .a (s.reg .l)) s

/-- MOV A, A, byte 7Fh: R101. -/
def execMovAA (s : State) : Result := ordinary 1 (fun s => s.setReg .a (s.reg .a)) s

/-- MOV B, M, byte 46h: R102. -/
def execMovBM (s : State) : Result := ordinary 1 (fun s => s.setReg .b s.mOperand) s

/-- MOV C, M, byte 4Eh: R102. -/
def execMovCM (s : State) : Result := ordinary 1 (fun s => s.setReg .c s.mOperand) s

/-- MOV D, M, byte 56h: R102. -/
def execMovDM (s : State) : Result := ordinary 1 (fun s => s.setReg .d s.mOperand) s

/-- MOV E, M, byte 5Eh: R102. -/
def execMovEM (s : State) : Result := ordinary 1 (fun s => s.setReg .e s.mOperand) s

/-- MOV H, M, byte 66h: R102. -/
def execMovHM (s : State) : Result := ordinary 1 (fun s => s.setReg .h s.mOperand) s

/-- MOV L, M, byte 6Eh: R102. -/
def execMovLM (s : State) : Result := ordinary 1 (fun s => s.setReg .l s.mOperand) s

/-- MOV A, M, byte 7Eh: R102. -/
def execMovAM (s : State) : Result := ordinary 1 (fun s => s.setReg .a s.mOperand) s

/-- MOV M, B, byte 70h: R103. -/
def execMovMB (s : State) : Result := ordinary 1 (fun s => s.setM (s.reg .b)) s

/-- MOV M, C, byte 71h: R103. -/
def execMovMC (s : State) : Result := ordinary 1 (fun s => s.setM (s.reg .c)) s

/-- MOV M, D, byte 72h: R103. -/
def execMovMD (s : State) : Result := ordinary 1 (fun s => s.setM (s.reg .d)) s

/-- MOV M, E, byte 73h: R103. -/
def execMovME (s : State) : Result := ordinary 1 (fun s => s.setM (s.reg .e)) s

/-- MOV M, H, byte 74h: R103. -/
def execMovMH (s : State) : Result := ordinary 1 (fun s => s.setM (s.reg .h)) s

/-- MOV M, L, byte 75h: R103. -/
def execMovML (s : State) : Result := ordinary 1 (fun s => s.setM (s.reg .l)) s

/-- MOV M, A, byte 77h: R103. -/
def execMovMA (s : State) : Result := ordinary 1 (fun s => s.setM (s.reg .a)) s

/-- MVI B, d8, byte 06h: R104. -/
def execMviB (d8 : Byte) (s : State) : Result := ordinary 2 (fun s => s.setReg .b d8) s

/-- MVI C, d8, byte 0Eh: R104. -/
def execMviC (d8 : Byte) (s : State) : Result := ordinary 2 (fun s => s.setReg .c d8) s

/-- MVI D, d8, byte 16h: R104. -/
def execMviD (d8 : Byte) (s : State) : Result := ordinary 2 (fun s => s.setReg .d d8) s

/-- MVI E, d8, byte 1Eh: R104. -/
def execMviE (d8 : Byte) (s : State) : Result := ordinary 2 (fun s => s.setReg .e d8) s

/-- MVI H, d8, byte 26h: R104. -/
def execMviH (d8 : Byte) (s : State) : Result := ordinary 2 (fun s => s.setReg .h d8) s

/-- MVI L, d8, byte 2Eh: R104. -/
def execMviL (d8 : Byte) (s : State) : Result := ordinary 2 (fun s => s.setReg .l d8) s

/-- MVI A, d8, byte 3Eh: R104. -/
def execMviA (d8 : Byte) (s : State) : Result := ordinary 2 (fun s => s.setReg .a d8) s

/-- MVI M, d8, byte 36h: R105. -/
def execMviM (d8 : Byte) (s : State) : Result := ordinary 2 (fun s => s.setM d8) s

/-- LXI B, d16, byte 01h: R106. -/
def execLxiB (d16 : Word) (s : State) : Result := ordinary 3 (fun s => s.setPair .bc d16) s

/-- LXI D, d16, byte 11h: R106. -/
def execLxiD (d16 : Word) (s : State) : Result := ordinary 3 (fun s => s.setPair .de d16) s

/-- LXI H, d16, byte 21h: R106. -/
def execLxiH (d16 : Word) (s : State) : Result := ordinary 3 (fun s => s.setPair .hl d16) s

/-- LXI SP, d16, byte 31h: R106. -/
def execLxiSp (d16 : Word) (s : State) : Result := ordinary 3 (fun s => s.setPair .sp d16) s

/-- LDA addr, byte 3Ah: R107. -/
def execLda (addr : Word) (s : State) : Result := ordinary 3 (fun s => s.setReg .a (s.readByte addr)) s

/-- STA addr, byte 32h: R108. -/
def execSta (addr : Word) (s : State) : Result := ordinary 3 (fun s => s.writeByte addr (s.reg .a)) s

/-- LHLD addr, byte 2Ah: R109. -/
def execLhld (addr : Word) (s : State) : Result := ordinary 3 (fun s => s.setPair .hl (s.readWord addr)) s

/-- SHLD addr, byte 22h: R110. -/
def execShld (addr : Word) (s : State) : Result := ordinary 3 (fun s => s.storeHL addr) s

/-- LDAX B, byte 0Ah: R111. -/
def execLdaxB (s : State) : Result := ordinary 1 (fun s => s.setReg .a (s.readByte s.bc)) s

/-- LDAX D, byte 1Ah: R111. -/
def execLdaxD (s : State) : Result := ordinary 1 (fun s => s.setReg .a (s.readByte s.de)) s

/-- STAX B, byte 02h: R112. -/
def execStaxB (s : State) : Result := ordinary 1 (fun s => s.writeByte s.bc (s.reg .a)) s

/-- STAX D, byte 12h: R112. -/
def execStaxD (s : State) : Result := ordinary 1 (fun s => s.writeByte s.de (s.reg .a)) s

/-- XCHG, byte EBh: R113. -/
def execXchg (s : State) : Result := ordinary 1 (fun s => s.exchangeDEHL) s

end Sys2Proof.Machine
end

