-- ==== Sys2Proof/Machine/Interrupts.lean ====
section
/-!
DEFINITION. The interrupt inputs: what the environment reports at a step boundary, which request is acceptable
and which is chosen (60_exceptions R255 to R257, R260), and its acceptance (R258, R259).
-/

namespace Sys2Proof.Machine

/-- The interrupt sources (R255); `intr` is INT on the 8080 and INTR on the 8085A, with the bytes the device
supplies. -/
inductive Request where
  | trap
  | rst75
  | rst65
  | rst55
  | intr (supplied : List Byte)
deriving DecidableEq, Repr

/-- The environment reports at a boundary (R254, phase 1): the next report becomes the input levels, a rising
edge on RST 7.5 sets the latch I7.5 of an 8085A whether or not it is masked (R256), and the counter of the free
values advances (log 5). -/
def State.sample (s : State) : State :=
  let p := s.schedule.headD Pins.quiet
  { s with
    pins := p
    schedule := s.schedule.tail
    serial :=
      match s.variant with
      | .i8080 => s.serial
      | .i8085A => { s.serial with i75 := s.serial.i75 || p.rst75 }
    tick := s.tick + 1 }

/-- `enabled`: INTE = 1 and `ei_pending` = 0 (R257). -/
def State.enabled (s : State) : Bool := s.inte && !s.eiPending

/-- INT or INTR, when its level is 1 and interrupts are enabled (R257). -/
def State.suppliedRequest (s : State) : Option Request :=
  if s.enabled then s.pins.intr.map Request.intr else none

/-- `select`: the acceptable request that comes first in the order of priority (R257, R260). -/
def State.select (s : State) : Option Request :=
  match s.variant with
  | .i8080 => s.suppliedRequest
  | .i8085A =>
    if s.pins.trap then some .trap
    else if s.enabled && !s.serial.m75 && s.serial.i75 then some .rst75
    else if s.enabled && !s.serial.m65 && s.pins.rst65 then some .rst65
    else if s.enabled && !s.serial.m55 && s.pins.rst55 then some .rst55
    else s.suppliedRequest

/-- The target of a supplied instruction: 8 × n for `RST n`, the address for `CALL addr`, none for any other
(R258, R265). -/
def suppliedTarget : List Byte → Option Word
  | [op] => if op &&& 0xC7#8 = 0xC7#8 then some ((op &&& 0x38#8).setWidth 16) else none
  | [op, lo, hi] => if op = 0xCD#8 then some (joinBytes hi lo) else none
  | _ => none

/-- `accept` (R258, R259): the vectors are 0024h, 003Ch, 0034h, 002Ch; RST 7.5's latch is cleared by its
acceptance. -/
def State.accept (s : State) : Request → Result
  | .trap => .next (s.enterHandler 0x0024#16)
  | .rst75 => .next (({ s with serial := { s.serial with i75 := false } } : State).enterHandler 0x003C#16)
  | .rst65 => .next (s.enterHandler 0x0034#16)
  | .rst55 => .next (s.enterHandler 0x002C#16)
  | .intr supplied =>
    match suppliedTarget supplied with
    | some target => .next (s.enterHandler target)
    | none => .fault (.intInstrRefused supplied)

end Sys2Proof.Machine
end

