-- ==== Sys2Proof/Machine/Fetch.lean ====
section
/-!
DEFINITION. Fetching the instruction at PC (30_encoding R86, 60_exceptions R254 phase 2), and placing one there
from outside the machine.
-/

namespace Sys2Proof.Machine

/-- The instruction at PC: the opcode byte and the two bytes after it, addresses modulo 2^16 (R54, R86); the
decoder uses as many of the bytes as the instruction has. -/
def State.fetchInstr (s : State) : Instr :=
  decodeAt (s.fetchByte s.pc) (s.fetchByte (s.pc + 1)) (s.fetchByte (s.pc + 2))

/-- Place bytes in memory from address `a` on, as a loader outside the machine does: rom takes them too, and an
address without a cell is given one. -/
def State.placeBytes (s : State) (a : Word) : List Byte → State
  | [] => s
  | v :: vs =>
    let m := Memory.write s.mem a.toNat v
    let map := match s.cellKind a with
      | .absent => { base := a.toNat, size := 1, kind := .ram } :: s.memMap
      | .ram => s.memMap
      | .rom => s.memMap
    State.placeBytes { s with mem := m, memMap := map } (a + 1) vs

/-- Nothing stands in the way of the next fetch: no recorded fault, not halted, the next report of the
environment quiet, and an RST 7.5 latch that would be accepted cleared. -/
def State.readyToFetch (s : State) : State :=
  { s with
    fault := none
    halted := false
    schedule := if s.schedule.isEmpty then [] else Pins.quiet :: s.schedule
    serial := { s.serial with i75 := s.serial.i75 && !(s.enabled && !s.serial.m75) } }

end Sys2Proof.Machine
end

