-- ==== Sys2Proof/Machine/Logical.lean ====
section
/-!
DEFINITION. Logical, compare, rotate and carry instructions (42_logical, R150 to R174).
-/

namespace Sys2Proof.Machine

/-- `LOGIC(A & v, ac)` with AC by the variant (R150, R151, R152). -/
def State.accAnd (s : State) (v : Byte) : State :=
  { s with
    regs := { s.regs with a := s.regs.a &&& v }
    flags := logicFlags (s.regs.a &&& v) (andAc s.variant s.regs.a v) }

/-- `LOGIC(A ^ v, 0)` (R150, R155). -/
def State.accXor (s : State) (v : Byte) : State :=
  { s with regs := { s.regs with a := s.regs.a ^^^ v }, flags := logicFlags (s.regs.a ^^^ v) false }

/-- `LOGIC(A | v, 0)` (R150, R158). -/
def State.accOr (s : State) (v : Byte) : State :=
  { s with regs := { s.regs with a := s.regs.a ||| v }, flags := logicFlags (s.regs.a ||| v) false }

/-- The flags of `SUB8(A, v, 0)`, the difference discarded (R161). -/
def State.accCompare (s : State) (v : Byte) : State :=
  { s with flags := (sub8 s.regs.a v false).flags }

/-- A rotate's outcome: the new A and the new CY. -/
structure Rotated where
  res : Byte
  cy : Bool
deriving DecidableEq, Repr

/-- RLC: `A[6:0] ++ A[7]`, CY takes A[7] (R168). -/
def rlc8 (a : Byte) : Rotated :=
  { res := a.extractLsb' 0 7 ++ BitVec.ofBool (a.getLsbD 7), cy := a.getLsbD 7 }

/-- RRC: `A[0] ++ A[7:1]`, CY takes A[0] (R169). -/
def rrc8 (a : Byte) : Rotated :=
  { res := BitVec.ofBool (a.getLsbD 0) ++ a.extractLsb' 1 7, cy := a.getLsbD 0 }

/-- RAL: `A[6:0] ++ CY`, CY takes A[7] (R170). -/
def ral8 (a : Byte) (cy : Bool) : Rotated :=
  { res := a.extractLsb' 0 7 ++ BitVec.ofBool cy, cy := a.getLsbD 7 }

/-- RAR: `CY ++ A[7:1]`, CY takes A[0] (R171). -/
def rar8 (a : Byte) (cy : Bool) : Rotated :=
  { res := BitVec.ofBool cy ++ a.extractLsb' 1 7, cy := a.getLsbD 0 }

/-- Write CY alone (R29 code ∇). -/
def State.setCarry (s : State) (cy : Bool) : State := { s with flags := { s.flags with cy := cy } }

/-- A rotate writes A and CY alone (R167). -/
def State.accRotate (s : State) (r : Rotated) : State := (s.setReg .a r.res).setCarry r.cy

/-- ANA B, byte A0h: R152. -/
def execAnaB (s : State) : Result := ordinary 1 (fun s => s.accAnd (s.reg .b)) s

/-- ANA C, byte A1h: R152. -/
def execAnaC (s : State) : Result := ordinary 1 (fun s => s.accAnd (s.reg .c)) s

/-- ANA D, byte A2h: R152. -/
def execAnaD (s : State) : Result := ordinary 1 (fun s => s.accAnd (s.reg .d)) s

/-- ANA E, byte A3h: R152. -/
def execAnaE (s : State) : Result := ordinary 1 (fun s => s.accAnd (s.reg .e)) s

/-- ANA H, byte A4h: R152. -/
def execAnaH (s : State) : Result := ordinary 1 (fun s => s.accAnd (s.reg .h)) s

/-- ANA L, byte A5h: R152. -/
def execAnaL (s : State) : Result := ordinary 1 (fun s => s.accAnd (s.reg .l)) s

/-- ANA A, byte A7h: R152. -/
def execAnaA (s : State) : Result := ordinary 1 (fun s => s.accAnd (s.reg .a)) s

/-- ANA M, byte A6h: R154. -/
def execAnaM (s : State) : Result := ordinary 1 (fun s => s.accAnd s.mOperand) s

/-- ANI d8, byte E6h: R153. -/
def execAni (d8 : Byte) (s : State) : Result := ordinary 2 (fun s => s.accAnd d8) s

/-- XRA B, byte A8h: R155. -/
def execXraB (s : State) : Result := ordinary 1 (fun s => s.accXor (s.reg .b)) s

/-- XRA C, byte A9h: R155. -/
def execXraC (s : State) : Result := ordinary 1 (fun s => s.accXor (s.reg .c)) s

/-- XRA D, byte AAh: R155. -/
def execXraD (s : State) : Result := ordinary 1 (fun s => s.accXor (s.reg .d)) s

/-- XRA E, byte ABh: R155. -/
def execXraE (s : State) : Result := ordinary 1 (fun s => s.accXor (s.reg .e)) s

/-- XRA H, byte ACh: R155. -/
def execXraH (s : State) : Result := ordinary 1 (fun s => s.accXor (s.reg .h)) s

/-- XRA L, byte ADh: R155. -/
def execXraL (s : State) : Result := ordinary 1 (fun s => s.accXor (s.reg .l)) s

/-- XRA A, byte AFh: R155. -/
def execXraA (s : State) : Result := ordinary 1 (fun s => s.accXor (s.reg .a)) s

/-- XRA M, byte AEh: R157. -/
def execXraM (s : State) : Result := ordinary 1 (fun s => s.accXor s.mOperand) s

/-- XRI d8, byte EEh: R156. -/
def execXri (d8 : Byte) (s : State) : Result := ordinary 2 (fun s => s.accXor d8) s

/-- ORA B, byte B0h: R158. -/
def execOraB (s : State) : Result := ordinary 1 (fun s => s.accOr (s.reg .b)) s

/-- ORA C, byte B1h: R158. -/
def execOraC (s : State) : Result := ordinary 1 (fun s => s.accOr (s.reg .c)) s

/-- ORA D, byte B2h: R158. -/
def execOraD (s : State) : Result := ordinary 1 (fun s => s.accOr (s.reg .d)) s

/-- ORA E, byte B3h: R158. -/
def execOraE (s : State) : Result := ordinary 1 (fun s => s.accOr (s.reg .e)) s

/-- ORA H, byte B4h: R158. -/
def execOraH (s : State) : Result := ordinary 1 (fun s => s.accOr (s.reg .h)) s

/-- ORA L, byte B5h: R158. -/
def execOraL (s : State) : Result := ordinary 1 (fun s => s.accOr (s.reg .l)) s

/-- ORA A, byte B7h: R158. -/
def execOraA (s : State) : Result := ordinary 1 (fun s => s.accOr (s.reg .a)) s

/-- ORA M, byte B6h: R160. -/
def execOraM (s : State) : Result := ordinary 1 (fun s => s.accOr s.mOperand) s

/-- ORI d8, byte F6h: R159. -/
def execOri (d8 : Byte) (s : State) : Result := ordinary 2 (fun s => s.accOr d8) s

/-- CMP B, byte B8h: R161. -/
def execCmpB (s : State) : Result := ordinary 1 (fun s => s.accCompare (s.reg .b)) s

/-- CMP C, byte B9h: R161. -/
def execCmpC (s : State) : Result := ordinary 1 (fun s => s.accCompare (s.reg .c)) s

/-- CMP D, byte BAh: R161. -/
def execCmpD (s : State) : Result := ordinary 1 (fun s => s.accCompare (s.reg .d)) s

/-- CMP E, byte BBh: R161. -/
def execCmpE (s : State) : Result := ordinary 1 (fun s => s.accCompare (s.reg .e)) s

/-- CMP H, byte BCh: R161. -/
def execCmpH (s : State) : Result := ordinary 1 (fun s => s.accCompare (s.reg .h)) s

/-- CMP L, byte BDh: R161. -/
def execCmpL (s : State) : Result := ordinary 1 (fun s => s.accCompare (s.reg .l)) s

/-- CMP A, byte BFh: R161. -/
def execCmpA (s : State) : Result := ordinary 1 (fun s => s.accCompare (s.reg .a)) s

/-- CMP M, byte BEh: R163. -/
def execCmpM (s : State) : Result := ordinary 1 (fun s => s.accCompare s.mOperand) s

/-- CPI d8, byte FEh: R162. -/
def execCpi (d8 : Byte) (s : State) : Result := ordinary 2 (fun s => s.accCompare d8) s

/-- RLC, byte 07h: R168. -/
def execRlc (s : State) : Result := ordinary 1 (fun s => s.accRotate (rlc8 s.regs.a)) s

/-- RRC, byte 0Fh: R169. -/
def execRrc (s : State) : Result := ordinary 1 (fun s => s.accRotate (rrc8 s.regs.a)) s

/-- RAL, byte 17h: R170. -/
def execRal (s : State) : Result := ordinary 1 (fun s => s.accRotate (ral8 s.regs.a s.flags.cy)) s

/-- RAR, byte 1Fh: R171. -/
def execRar (s : State) : Result := ordinary 1 (fun s => s.accRotate (rar8 s.regs.a s.flags.cy)) s

/-- CMA, byte 2Fh: R172. -/
def execCma (s : State) : Result := ordinary 1 (fun s => s.setReg .a (~~~(s.reg .a))) s

/-- CMC, byte 3Fh: R173. -/
def execCmc (s : State) : Result := ordinary 1 (fun s => s.setCarry (!s.flags.cy)) s

/-- STC, byte 37h: R174. -/
def execStc (s : State) : Result := ordinary 1 (fun s => s.setCarry true) s

end Sys2Proof.Machine
end

