-- ==== Sys2Proof/Machine/StackIoControl.lean ====
section
/-!
DEFINITION. Stack, input/output and machine control (44_stack_io_control, R220 to R241), and the undefined bytes (R251).
-/

namespace Sys2Proof.Machine

/-- POP PSW: the flags from the byte at SP, A from the byte at SP + 1 (R223). -/
def State.popAccFlags (s : State) : State :=
  { s.dropWord with
    regs := { s.regs with a := s.readByte (s.sp + 1) }
    flags := Flags.ofByte (s.readByte s.sp) }

/-- XTHL: read SP, read SP + 1, write SP + 1, write SP (R224). -/
def State.exchangeTopHL (s : State) : State :=
  ((s.writeByte (s.sp + 1) s.regs.h).writeByte s.sp s.regs.l).setPair .hl s.topWord

/-- DI's own operation (R237). -/
def State.disableInterrupts (s : State) : State := { s with inte := false, eiPending := false }

/-- HLT's own operation (R238). -/
def State.halt (s : State) : State := { s with halted := true }

/-- The masks, latch and SOD that SIM leaves, from A (R240). -/
def simSerial (a : Byte) (r : Serial85) : Serial85 :=
  { m75 := if a.getLsbD 3 then a.getLsbD 2 else r.m75
    m65 := if a.getLsbD 3 then a.getLsbD 1 else r.m65
    m55 := if a.getLsbD 3 then a.getLsbD 0 else r.m55
    i75 := if a.getLsbD 4 then false else r.i75
    sod := if a.getLsbD 6 then a.getLsbD 7 else r.sod }

/-- SIM: the masks, the latch and SOD from A; a write of SOD is an event of the run (R240, R272). -/
def State.setMasks (s : State) : State :=
  let t := { s with serial := simSerial s.regs.a s.serial }
  if s.regs.a.getLsbD 6 then t.record (.sodWrite (s.regs.a.getLsbD 7)) else t

/-- A[3] of RIM: INTE, except right after EI, where the spec leaves it unspecified: a free value (R241, U9;
log 9). -/
def State.rimEnable (s : State) : Bool := if s.eiPending then Config.rimEnableBit s.tick else s.inte

/-- The byte RIM delivers: `SID I7.5 I6.5 I5.5 INTE M7.5 M6.5 M5.5`, bit 7 first (R241). -/
def State.rimByte (s : State) : Byte :=
  BitVec.ofBool s.pins.sid ++ BitVec.ofBool s.serial.i75 ++ BitVec.ofBool s.pins.rst65
    ++ BitVec.ofBool s.pins.rst55 ++ BitVec.ofBool s.rimEnable ++ BitVec.ofBool s.serial.m75
    ++ BitVec.ofBool s.serial.m65 ++ BitVec.ofBool s.serial.m55

/-- RIM: A takes the byte; the sampling of SID is an event of the run (R241, R272, R293). -/
def State.readMasks (s : State) : State := (s.setReg .a s.rimByte).record (.sidRead s.pins.sid)

/-- PUSH B, byte C5h: R220. -/
def execPushB (s : State) : Result := ordinary 1 (fun s => s.pushBytes s.regs.b s.regs.c) s

/-- PUSH D, byte D5h: R220. -/
def execPushD (s : State) : Result := ordinary 1 (fun s => s.pushBytes s.regs.d s.regs.e) s

/-- PUSH H, byte E5h: R220. -/
def execPushH (s : State) : Result := ordinary 1 (fun s => s.pushBytes s.regs.h s.regs.l) s

/-- PUSH PSW, byte F5h: R221. -/
def execPushPsw (s : State) : Result := ordinary 1 (fun s => s.pushBytes s.regs.a s.flags.toByte) s

/-- POP B, byte C1h: R222. -/
def execPopB (s : State) : Result := ordinary 1 (fun s => s.dropWord.setPair .bc s.topWord) s

/-- POP D, byte D1h: R222. -/
def execPopD (s : State) : Result := ordinary 1 (fun s => s.dropWord.setPair .de s.topWord) s

/-- POP H, byte E1h: R222. -/
def execPopH (s : State) : Result := ordinary 1 (fun s => s.dropWord.setPair .hl s.topWord) s

/-- POP PSW, byte F1h: R223. -/
def execPopPsw (s : State) : Result := ordinary 1 (fun s => s.popAccFlags) s

/-- XTHL, byte E3h: R224. -/
def execXthl (s : State) : Result := ordinary 1 (fun s => s.exchangeTopHL) s

/-- SPHL, byte F9h: R225. -/
def execSphl (s : State) : Result := ordinary 1 (fun s => s.setPair .sp s.hl) s

/-- IN port, byte DBh: R230. -/
def execInPort (port : Byte) (s : State) : Result :=
  ordinary 2 (fun s => (s.takePortAnswer port).setReg .a (s.portAnswer port)) s

/-- OUT port, byte D3h: R231. -/
def execOutPort (port : Byte) (s : State) : Result := ordinary 2 (fun s => s.record (.portOut port s.regs.a)) s

/-- EI, byte FBh: R236. -/
def execEi (s : State) : Result := runInstr .ei 1 (fun s => s) s

/-- DI, byte F3h: R237. -/
def execDi (s : State) : Result := runInstr .di 1 (fun s => s.disableInterrupts) s

/-- HLT, byte 76h: R238. -/
def execHlt (s : State) : Result := ordinary 1 (fun s => s.halt) s

/-- NOP, byte 00h: R239. -/
def execNop (s : State) : Result := ordinary 1 (fun s => s) s

/-- SIM, byte 30h: R240. -/
def execSim (s : State) : Result := only85 0x30#8 (ordinary 1 (fun s => s.setMasks)) s

/-- RIM, byte 20h: R241. -/
def execRim (s : State) : Result := only85 0x20#8 (ordinary 1 (fun s => s.readMasks)) s

/-- A byte the source prints "—" for: the model fault of R251, with the byte and its address (R84). -/
def execUndefined (op : Byte) (s : State) : Result := .fault (.undefinedOpcode op s.pc)

end Sys2Proof.Machine
end

