-- ==== Sys2Proof/Machine/Step.lean ====
section
/-!
DEFINITION. One step of the machine (60_exceptions R254), and the state in which the next step runs a given
instruction.
-/

namespace Sys2Proof.Machine

/-- `Step` (R254): a faulted run makes no further step; at the boundary the requests are sampled and an
acceptable one is accepted; a halted processor waits; else the instruction at PC is fetched and executed. -/
def step (s : State) : Result :=
  match s.fault with
  | some f => .fault f
  | none =>
    match s.sample.select with
    | some req => s.sample.accept req
    | none => if s.sample.halted then .next s.sample else exec s.sample.fetchInstr s.sample

/-- `Step` as R254 iterates it, on states alone: a fault leaves the state as before the step, recorded, and a
faulted run stays as it is (R11, R250). -/
def stepState (s : State) : State :=
  match step s with
  | .next t => t
  | .fault f => s.recordFault f
  | .refused _ => s

/-- The state with the instruction whose bits are `w` stored where step fetches its next instruction, and
nothing in the way of that fetch (log 11). -/
def State.withFetchWord (s : State) (nbits w : Nat) : State :=
  s.readyToFetch.placeBytes s.pc (tableBytes nbits w)

end Sys2Proof.Machine
end

