-- ==== Sys2Proof/Safety.lean ====
section
/-!
DEFINITION. What a run may count on and how it ends, in the terms the statements use: the canonical form of
memory, the outcomes of R293, the legend of the F column (R29), and the part of the state that belongs to the
processor and not to its environment.
-/

namespace Sys2Proof

/-- The high register of a PUSH or POP pair (R22, R220). -/
def StackPair.high : StackPair → Reg8
  | .bc => .b | .de => .d | .hl => .h

/-- The low register of a PUSH or POP pair (R22, R220). -/
def StackPair.low : StackPair → Reg8
  | .bc => .c | .de => .e | .hl => .l

/-- A PUSH or POP pair among the pairs of R75. -/
def StackPair.toPair : StackPair → RegPair
  | .bc => .bc | .de => .de | .hl => .hl

/-- The instructions R26 names as those that may set PC otherwise than past themselves. -/
def Instr.isTransfer : Instr → Bool
  | .jmp _ | .pchl | .call _ | .ret => true
  | .jnz _ | .jz _ | .jnc _ | .jc _ | .jpo _ | .jpe _ | .jp _ | .jm _ => true
  | .cnz _ | .cz _ | .cnc _ | .cc _ | .cpo _ | .cpe _ | .cp _ | .cm _ => true
  | .rnz | .rz | .rnc | .rc | .rpo | .rpe | .rp | .rm => true
  | .rst0 | .rst1 | .rst2 | .rst3 | .rst4 | .rst5 | .rst6 | .rst7 => true
  | _ => false

/-- The operand of an instruction of the accumulator group (R77, R82, R83): a register, M, or an immediate byte. -/
inductive AluOperand where
  | reg (x : Reg8)
  | mem
  | imm (d8 : Byte)
deriving DecidableEq, Repr

/-- The instruction of the group with this operation and this operand. -/
def AluOperand.instr (o : AluOp) : AluOperand → Instr
  | .reg x => Instr.aluReg o x
  | .mem => Instr.aluMem o
  | .imm d8 => Instr.aluImm o d8

/-- Its bytes: `10 OOO SSS`, or `11 OOO 110` and d8 (R77). -/
def AluOperand.bytes (o : AluOp) : AluOperand → List Byte
  | .reg x => [BitVec.ofNat 8 (0x80 + 8 * o.code + x.code)]
  | .mem => [BitVec.ofNat 8 (0x86 + 8 * o.code)]
  | .imm d8 => [BitVec.ofNat 8 (0xC6 + 8 * o.code), d8]

/-- How many bytes it has (R71). -/
def AluOperand.len : AluOperand → Word
  | .reg _ => 1
  | .mem => 1
  | .imm _ => 2

/-- The number a list of bytes stands for, the lowest byte first. -/
def bytesValue : List Byte → Nat
  | [] => 0
  | v :: vs => v.toNat + 256 * bytesValue vs

/-- How many bits of a byte are one, counted one by one (R31). -/
def oneBits (v : Byte) : Nat := ((List.range 8).filter (fun k => v.getLsbD k)).length

/-- The number two decimal digits stand for, one in each half of a byte (R147). -/
def packedDecimal (v : Byte) : Nat := 10 * (v.toNat / 16) + v.toNat % 16

/-- Both halves of a byte are decimal digits. -/
def isPackedDecimal (v : Byte) : Prop := v.toNat / 16 < 10 ∧ v.toNat % 16 < 10

end Sys2Proof

namespace Sys2Proof.Machine

/-- The memory is in canonical form, so that equal memories are equal lists. -/
def State.wf (s : State) : Bool := Memory.wf s.mem

/-- No request is acceptable at the next boundary (R257). -/
def State.nothingAcceptable (s : State) : Bool := s.sample.select.isNone

/-- A faulted run (R293): a model fault has been recorded. -/
def State.faulted (s : State) : Bool := s.fault.isSome

/-- The state after `n` steps (R254), a fault recorded where one is raised. -/
def State.after (s : State) : Nat → State
  | 0 => s
  | n + 1 => (stepState s).after n

/-- A final state (R293): halted, no fault, and at no coming boundary is a request acceptable. -/
def State.final (s : State) : Prop :=
  s.fault = none ∧ s.halted = true ∧ ∀ n : Nat, (s.after n).nothingAcceptable = true

/-- Two states agree in everything the processor itself holds; they may differ in the environment's inputs, in
the latch I7.5 that the environment sets, and in the counter of boundaries. -/
def State.sameProcessor (s t : State) : Prop :=
  t.variant = s.variant ∧ t.memMap = s.memMap ∧ t.regs = s.regs ∧ t.sp = s.sp ∧ t.pc = s.pc ∧ t.flags = s.flags ∧
  t.inte = s.inte ∧ t.eiPending = s.eiPending ∧ t.halted = s.halted ∧
  t.serial.m55 = s.serial.m55 ∧ t.serial.m65 = s.serial.m65 ∧ t.serial.m75 = s.serial.m75 ∧
  t.serial.sod = s.serial.sod ∧ t.fault = s.fault ∧ t.mem = s.mem ∧ t.portIn = s.portIn ∧ t.trace = s.trace

/-! ### The state an instruction is expected to leave, for the statements -/

/-- Everything but what the operation itself does, for an instruction of `len` bytes that is neither EI nor DI: PC
is past the instruction (R12, R26), and an EI executed right before it has taken effect (R235). -/
def State.retired (s : State) (len : Word) : State :=
  { s with pc := s.pc + len, inte := s.inte || s.eiPending, eiPending := false }

/-- `t` is `u` except that, of all cells as they read in `s`, the one at `a` was stored `v` (R55: the store takes
effect in ram alone). -/
def State.storedByte (s t u : State) (a : Word) (v : Byte) : Prop :=
  { t with mem := s.mem } = u ∧
  ∀ b : Word, t.readByte b = if b = a ∧ s.cellKind a = .ram then v else s.readByte b

/-- `t` is `u` except that, of all cells as they read in `s`, the ones at `a` and `a + 1` were stored `lo` and `hi`
(R54, R55, R58). -/
def State.storedWord (s t u : State) (a : Word) (lo hi : Byte) : Prop :=
  { t with mem := s.mem } = u ∧
  ∀ b : Word, t.readByte b =
    if b = a ∧ s.cellKind a = .ram then lo
    else if b = a + 1 ∧ s.cellKind (a + 1) = .ram then hi
    else s.readByte b

/-- The address LDAX and STAX use (R111, R112). -/
def State.indexPair (s : State) : IndexPair → Word
  | .bc => s.bc
  | .de => s.de

/-- The value of an operand of the accumulator group. -/
def State.aluOperand (s : State) : AluOperand → Byte
  | .reg x => s.regs.get x
  | .mem => s.readByte s.hl
  | .imm d8 => d8

/-- A result in A with these flags, after an instruction of `len` bytes. -/
def State.withResult (s : State) (len : Word) (res : Byte) (f : Flags) : State :=
  { s.retired len with regs := { s.regs with a := res }, flags := f }

/-- Bytes added from the lowest up, each addition taking the carry of the one before (R141 (e)): the sum's bytes and
the last carry. -/
def addChain : Bool → List (Byte × Byte) → List Byte × Bool
  | c, [] => ([], c)
  | c, (x, y) :: rest =>
    let o := add8 x y c
    let r := addChain o.flags.cy rest
    (o.res :: r.1, r.2)

/-- Bytes subtracted from the lowest up, each subtraction taking the borrow of the one before (R141 (e)). -/
def subChain : Bool → List (Byte × Byte) → List Byte × Bool
  | b, [] => ([], b)
  | b, (x, y) :: rest =>
    let o := sub8 x y b
    let r := subChain o.flags.cy rest
    (o.res :: r.1, r.2)

/-- The length of each defined opcode byte, as the table of R71 lists it. -/
def lengthListed (op : Nat) : Nat :=
  if [0x06, 0x0E, 0x16, 0x1E, 0x26, 0x2E, 0x36, 0x3E].contains op then 2                  -- MVI
  else if [0xC6, 0xCE, 0xD6, 0xDE, 0xE6, 0xEE, 0xF6, 0xFE].contains op then 2             -- ADI to CPI
  else if [0xD3, 0xDB].contains op then 2                                                 -- OUT, IN
  else if [0x01, 0x11, 0x21, 0x31].contains op then 3                                     -- LXI
  else if [0x22, 0x2A, 0x32, 0x3A].contains op then 3                                     -- SHLD, LHLD, STA, LDA
  else if [0xC2, 0xCA, 0xD2, 0xDA, 0xE2, 0xEA, 0xF2, 0xFA, 0xC3].contains op then 3       -- Jcond, JMP
  else if [0xC4, 0xCC, 0xD4, 0xDC, 0xE4, 0xEC, 0xF4, 0xFC, 0xCD].contains op then 3       -- Ccond, CALL
  else 1

/-- The codes of the F column (R29): `none` is "–", `all` is "+", `notCarry` is "Δ", `carry` is "∇", `andLike` is
"*", `orLike` is "#". -/
inductive FlagCode where
  | none
  | all
  | notCarry
  | carry
  | andLike
  | orLike
deriving DecidableEq, Repr

/-- What a code allows from the flags before to the flags after (R29): "–" under a flag keeps it, "0" clears it,
"+" leaves it to the instruction's own rule. -/
def FlagCode.allows : FlagCode → Flags → Flags → Prop
  | .none, f, g => g = f
  | .all, _, _ => True
  | .notCarry, f, g => g.cy = f.cy
  | .carry, f, g => g.s = f.s ∧ g.z = f.z ∧ g.ac = f.ac ∧ g.p = f.p
  | .andLike, _, g => g.cy = false
  | .orLike, _, g => g.ac = false ∧ g.cy = false

/-- The F code of an instruction: the last column of the table of R29; every instruction not named carries "–". -/
def flagCode : Instr → FlagCode
  | .addB | .addC | .addD | .addE | .addH | .addL | .addM | .addA | .adi _ => .all
  | .adcB | .adcC | .adcD | .adcE | .adcH | .adcL | .adcM | .adcA | .aci _ => .all
  | .subB | .subC | .subD | .subE | .subH | .subL | .subM | .subA | .sui _ => .all
  | .sbbB | .sbbC | .sbbD | .sbbE | .sbbH | .sbbL | .sbbM | .sbbA | .sbi _ => .all
  | .cmpB | .cmpC | .cmpD | .cmpE | .cmpH | .cmpL | .cmpM | .cmpA | .cpi _ => .all
  | .daa | .popPsw => .all
  | .inrB | .inrC | .inrD | .inrE | .inrH | .inrL | .inrM | .inrA => .notCarry
  | .dcrB | .dcrC | .dcrD | .dcrE | .dcrH | .dcrL | .dcrM | .dcrA => .notCarry
  | .rlc | .rrc | .ral | .rar | .cmc | .stc | .dadB | .dadD | .dadH | .dadSp => .carry
  | .anaB | .anaC | .anaD | .anaE | .anaH | .anaL | .anaM | .anaA | .ani _ => .andLike
  | .xraB | .xraC | .xraD | .xraE | .xraH | .xraL | .xraM | .xraA | .xri _ => .orLike
  | .oraB | .oraC | .oraD | .oraE | .oraH | .oraL | .oraM | .oraA | .ori _ => .orLike
  | _ => .none

end Sys2Proof.Machine
end

