-- ==== Sys2Proof/Certificates/Slice0/Obligations.lean ====
section
/-!
DEFINITION. The statements for the provers, file by file of the spec: encoding, the step, the arithmetic helpers, the
instruction families, interrupts and reset, invariants.
-/

open Sys2Proof Sys2Proof.Machine

/-! ### Encoding (30_encoding) -/

/-- R70, R71, R72, R78, R79, R86: the bytes of a well-formed instruction, whatever follows them, decode to it, for
every value of its operand bytes. The order of the operand bytes is the spec's own choice, D2. -/
def Obligations.DecodeOfEncode : Prop :=
  ∀ (i : Instr) (rest : List Byte), i.wf = true → decode (encode i ++ rest) = .ok (i, rest)

/-- R85, R86: what the decoder reads is a well-formed instruction and the bytes it was read from are that
instruction's encoding: no instruction has two encodings. The order of the operand bytes is the spec's own choice, D2.
-/
def Obligations.EncodeOfDecode : Prop :=
  ∀ (bs : List Byte) (i : Instr) (rest : List Byte),
    decode bs = .ok (i, rest) → i.wf = true ∧ encode i ++ rest = bs

/-- R71: every defined instruction has the length the table lists for its opcode byte, and the decoder consumes as
many bytes. The lengths rest on the spec's own choice, D2. -/
def Obligations.LengthsAreListed : Prop :=
  ∀ (i : Instr), i.definedOn .i8085A = true →
    (encode i).length = lengthListed ((encode i).headD 0).toNat ∧
    ∀ (bs rest : List Byte), decode bs = .ok (i, rest) →
      bs.length = lengthListed ((encode i).headD 0).toNat + rest.length

/-- R89: a few words of the opcode map, written out. The order of the operand bytes is the spec's own choice, D2, and
the byte FDh as one undefined instruction is the model's, log 14. -/
def Obligations.WordsDecode : Prop :=
  decode [0x78#8] = .ok (.movAB, []) ∧                                        -- 01 111 000, MOV A, B
  decode [0x36#8, 0xFF#8] = .ok (.mviM 0xFF#8, []) ∧                          -- 00 110 110, MVI M, FFh
  decode [0x21#8, 0x34#8, 0x12#8] = .ok (.lxiH 0x1234#16, []) ∧               -- 00 100 001, LXI H, 1234h
  decode [0x9D#8] = .ok (.sbbL, []) ∧                                         -- 10 011 101, SBB L
  decode [0xE6#8, 0x0F#8] = .ok (.ani 0x0F#8, []) ∧                           -- 11 100 110, ANI 0Fh
  decode [0xFA#8, 0x00#8, 0x20#8] = .ok (.jm 0x2000#16, []) ∧                 -- 11 111 010, JM 2000h
  decode [0xDB#8, 0x10#8] = .ok (.inPort 0x10#8, []) ∧                        -- IN 10h
  decode [0x76#8] = .ok (.hlt, []) ∧                                          -- HLT, not MOV M, M
  decode [0xF7#8] = .ok (.rst6, []) ∧                                         -- 11 110 111, RST 6
  decode [0xFD#8] = .ok (.undefined 0xFD#8, [])                               -- the source's "—"

/-! ### The step (60_exceptions R254) -/

/-- R254, phases 1 to 3, R256: with no recorded fault, no acceptable request and no halt, a step runs the instruction
that the bytes at PC decode to, at the sampled state. In every state, whether a request is accepted there, the
processor is halted or an instruction runs, sampling takes the environment's next report as the input levels, sets the
latch I7.5 of an 8085A where the report has a rising edge on RST 7.5, advances the counter of the free values, and
changes nothing else. The order of a step is the spec's own choice, D32, the latch its own choice, D17 (R39, R256),
the wrap of the fetch its own choice, D4; the environment as a list of reports is the model's, log 8, the counter too,
log 5, and that an edge sets no latch on an 8080 is log 16. -/
def Obligations.StepRunsDecoded : Prop :=
  (∀ (s : State) (i : Instr) (rest : List Byte),
    s.fault = none → s.nothingAcceptable = true → s.halted = false →
    decode [s.sample.fetchByte s.pc, s.sample.fetchByte (s.pc + 1), s.sample.fetchByte (s.pc + 2)] = .ok (i, rest) →
    step s = exec i s.sample) ∧
  (∀ (s : State),
    s.sample = { s with
      pins := s.schedule.headD Pins.quiet
      schedule := s.schedule.tail
      serial := { s.serial with
        i75 := if s.variant = .i8085A then s.serial.i75 || (s.schedule.headD Pins.quiet).rst75 else s.serial.i75 }
      tick := s.tick + 1 })

/-- R11, R250, R254, R275: a step that raises a fault leaves the state as it was with the fault recorded; a run with a
recorded fault makes no further step; a halted processor with no acceptable request makes a step that only samples:
what it holds stays, but that on the 8085A an edge reported on RST 7.5 is latched in I7.5, and a latched one is never
dropped (R238, R256). Model faults and the step are the spec's own choices, D26 and D32; the fault recorded after the
step is the model's rendering, log 13. The latch is the spec's own choice, D17; the list of reports is the model's,
log 8, and an 8080's lack of a latch log 16. -/
def Obligations.StandingRuns : Prop :=
  (∀ (s : State) (f : Fault), step s = .fault f → stepState s = { s with fault := some f }) ∧
  (∀ (s : State) (f : Fault) (n : Nat), s.fault = some f → s.after n = s) ∧
  (∀ (s : State), s.fault = none → s.halted = true → s.nothingAcceptable = true →
    step s = .next s.sample ∧ s.sameProcessor s.sample ∧
    s.sample.serial.i75 =
      if s.variant = .i8085A then s.serial.i75 || (s.schedule.headD Pins.quiet).rst75 else s.serial.i75)

/-- R251, R84: where a step fetches, it raises `UndefinedOpcode` exactly on the ten bytes and, on the 8080, on 20h and
30h, with the byte and its address. The fault is the spec's own choice, D5. -/
def Obligations.UndefinedOpcodeRaised : Prop :=
  ∀ (s : State), s.fault = none → s.nothingAcceptable = true → s.halted = false →
    ∀ (op : Byte) (pc0 : Word),
      (step s = .fault (.undefinedOpcode op pc0) ↔
        (op = s.sample.fetchByte s.pc ∧ pc0 = s.pc ∧
          (op ∈ [0x08#8, 0x10#8, 0x18#8, 0x28#8, 0x38#8, 0xCB#8, 0xD9#8, 0xDD#8, 0xED#8, 0xFD#8] ∨
            s.variant = .i8080 ∧ (op = 0x20#8 ∨ op = 0x30#8))))

/-- R84: RIM, SIM and the ten empty bytes are the stops: RIM and SIM on the 8080, an empty byte on both parts. The
fault is the spec's own choice, D5; the form of the instruction is the model's, log 14. -/
def Obligations.UndefinedInstructionsFault : Prop :=
  ∀ (s : State),
    (∀ op : Byte, exec (.undefined op) s = .fault (.undefinedOpcode op s.pc)) ∧
    (s.variant = .i8080 → exec .rim s = .fault (.undefinedOpcode 0x20#8 s.pc)) ∧
    (s.variant = .i8080 → exec .sim s = .fault (.undefinedOpcode 0x30#8 s.pc))

/-- R250: every instruction that is defined on the part completes, whatever the state; and by R26 it leaves PC past
itself unless it is one of the control transfers. That PC is past the instruction as it executes is the spec's own
choice, D3. -/
def Obligations.DefinedInstructionsComplete : Prop :=
  ∀ (i : Instr) (s : State), i.definedOn s.variant = true →
    ∃ t, exec i s = .next t ∧
      (i.isTransfer = false → t.pc = s.pc + BitVec.ofNat 16 (encode i).length) ∧
      t.variant = s.variant ∧ t.memMap = s.memMap ∧ t.fault = s.fault

/-- R235: the completion step. It is the spec's own choice, D14. -/
def Obligations.CompletionStep : Prop :=
  ∀ (i : Instr) (s t : State), exec i s = .next t →
    (i = .di → t.inte = false ∧ t.eiPending = false) ∧
    (i ≠ .di → t.inte = (s.inte || s.eiPending)) ∧
    (i = .ei → t.eiPending = true) ∧
    (i ≠ .ei → t.eiPending = false)

/-- R36 to R39, R57: which instructions write the control state: SIM alone the 8085A's register, HLT alone `halted`,
IN alone takes an answer, IN, OUT, RIM and SIM alone make an event; no instruction touches the inputs or a fault. The
serial register and the I/O environment are the spec's own choices, U8 and D22; the lists are the model's, log 7 and
log 8. -/
def Obligations.ControlStateWriters : Prop :=
  ∀ (i : Instr) (s t : State), exec i s = .next t →
    (i ≠ .sim → t.serial = s.serial) ∧
    (i ≠ .hlt → t.halted = s.halted) ∧
    ((∀ p, i ≠ .inPort p) → t.portIn = s.portIn) ∧
    ((∀ p, i ≠ .inPort p) → (∀ p, i ≠ .outPort p) → i ≠ .sim → i ≠ .rim → t.trace = s.trace) ∧
    t.pins = s.pins ∧ t.schedule = s.schedule ∧ t.tick = s.tick ∧ t.fault = s.fault

/-- R29, R35: the legend of the F column, over every instruction: no instruction changes a flag its code keeps, and a
code's "0" clears the flag. The reading of the legend's signs is the spec's own inference (R29, N3). -/
def Obligations.FlagLegend : Prop :=
  ∀ (i : Instr) (s t : State), exec i s = .next t → (flagCode i).allows s.flags t.flags

/-! ### Registers, flags, arithmetic (10_state, 41_arithmetic) -/

/-- R22: a pair is its two registers, the first-named one high; writing a register or a pair changes what it names and
nothing else: no other register, and after the write of a pair nothing outside the registers and SP. That the first-
named register is the high one is the spec's own inference. -/
def Obligations.PairsAreViews : Prop :=
  ∀ (s : State),
    (s.bc.toNat = 256 * s.regs.b.toNat + s.regs.c.toNat ∧
      s.de.toNat = 256 * s.regs.d.toNat + s.regs.e.toNat ∧
      s.hl.toNat = 256 * s.regs.h.toNat + s.regs.l.toNat) ∧
    (∀ (p q : RegPair) (v : Word), (s.setPair p v).pair q = if q = p then v else s.pair q) ∧
    (∀ (p : RegPair) (v : Word),
      (s.setPair p v).regs.a = s.regs.a ∧ { s.setPair p v with regs := s.regs, sp := s.sp } = s) ∧
    (∀ (x y : Reg8) (v : Byte), (s.regs.set x v).get y = if y = x then v else s.regs.get y)

/-- R28: the byte F, read and written. What POP PSW ignores is the spec's own choice, D6. -/
def Obligations.FlagByte : Prop :=
  (∀ f : Flags,
    f.toByte.getLsbD 7 = f.s ∧ f.toByte.getLsbD 6 = f.z ∧ f.toByte.getLsbD 5 = false ∧ f.toByte.getLsbD 4 = f.ac ∧
    f.toByte.getLsbD 3 = false ∧ f.toByte.getLsbD 2 = f.p ∧ f.toByte.getLsbD 1 = true ∧ f.toByte.getLsbD 0 = f.cy ∧
    f.toByte &&& 0x2A#8 = 0x02#8 ∧ Flags.ofByte f.toByte = f) ∧
  (∀ b : Byte,
    Flags.ofByte b = { s := b.getLsbD 7, z := b.getLsbD 6, ac := b.getLsbD 4, p := b.getLsbD 2, cy := b.getLsbD 0 } ∧
    (Flags.ofByte b).toByte = (b &&& 0xD5#8) ||| 0x02#8)

/-- R180: the eight conditions, by their codes, each one flag at one value. The codes are the spec's own inference
from the opcode map. -/
def Obligations.Conditions : Prop :=
  [Cond.nz, .z, .nc, .c, .po, .pe, .p, .m].map Cond.code = [0, 1, 2, 3, 4, 5, 6, 7] ∧
  ∀ (f : Flags),
    (f.holds .nz = true ↔ f.z = false) ∧ (f.holds .z = true ↔ f.z = true) ∧
    (f.holds .nc = true ↔ f.cy = false) ∧ (f.holds .c = true ↔ f.cy = true) ∧
    (f.holds .po = true ↔ f.p = false) ∧ (f.holds .pe = true ↔ f.p = true) ∧
    (f.holds .p = true ↔ f.s = false) ∧ (f.holds .m = true ↔ f.s = true)

/-- R120: ADD8 is the exact addition of the two bytes and the carry, with each flag as the rule defines it. What S, P,
AC and CY copy is the spec's own choice, D7. -/
def Obligations.Add8Exact : Prop :=
  ∀ (a v : Byte) (c : Bool),
    (add8 a v c).res.toNat = (a.toNat + v.toNat + c.toNat) % 256 ∧
    ((add8 a v c).flags.cy = true ↔ a.toNat + v.toNat + c.toNat > 255) ∧
    ((add8 a v c).flags.ac = true ↔ a.toNat % 16 + v.toNat % 16 + c.toNat > 15) ∧
    ((add8 a v c).flags.s = true ↔ (add8 a v c).res.toNat ≥ 128) ∧
    ((add8 a v c).flags.z = true ↔ (add8 a v c).res = 0) ∧
    ((add8 a v c).flags.p = true ↔ oneBits (add8 a v c).res % 2 = 0)

/-- R121: SUB8 is the exact subtraction of the byte and the borrow, CY the borrow, AC the absence of one out of the
low digit, in both forms the rule gives. That CY is the borrow and what AC is are the spec's own choice D9, what S and
P copy its own choice D7. -/
def Obligations.Sub8Exact : Prop :=
  ∀ (a v : Byte) (b : Bool),
    (sub8 a v b).res.toNat = (a.toNat + 512 - v.toNat - b.toNat) % 256 ∧
    ((sub8 a v b).flags.cy = true ↔ a.toNat < v.toNat + b.toNat) ∧
    ((sub8 a v b).flags.ac = true ↔ a.toNat % 16 + (~~~v).toNat % 16 + (1 - b.toNat) > 15) ∧
    ((sub8 a v b).flags.ac = true ↔ a.toNat % 16 ≥ v.toNat % 16 + b.toNat) ∧
    ((sub8 a v b).flags.s = true ↔ (sub8 a v b).res.toNat ≥ 128) ∧
    ((sub8 a v b).flags.z = true ↔ (sub8 a v b).res = 0) ∧
    ((sub8 a v b).flags.p = true ↔ oneBits (sub8 a v b).res % 2 = 0)

/-- R141 (e): bytes added from the lowest up with the carry passed on are the exact sum of the two numbers, and the
last carry is the carry out of the whole; bytes subtracted with the borrow passed on are the exact difference, and the
last borrow is the borrow of the whole. The law is the spec's own inference from R120 and R121. -/
def Obligations.ChainsExact : Prop :=
  ∀ (l : List (Byte × Byte)) (c : Bool),
    bytesValue (addChain c l).1 + 256 ^ l.length * (addChain c l).2.toNat =
      bytesValue (l.map Prod.fst) + bytesValue (l.map Prod.snd) + c.toNat ∧
    bytesValue (subChain c l).1 + bytesValue (l.map Prod.snd) + c.toNat =
      bytesValue (l.map Prod.fst) + 256 ^ l.length * (subChain c l).2.toNat

/-- R147: after ADD8 of two bytes of two decimal digits each, DAA gives the two digits of the decimal sum, and CY its
hundred. The algorithm is the spec's own choice, D10 (log 12). -/
def Obligations.DecimalSum : Prop :=
  ∀ (a v : Byte) (c : Bool), isPackedDecimal a → isPackedDecimal v →
    isPackedDecimal (daa8 (add8 a v c).res (add8 a v c).flags).res ∧
    packedDecimal (daa8 (add8 a v c).res (add8 a v c).flags).res +
        100 * (daa8 (add8 a v c).res (add8 a v c).flags).flags.cy.toNat =
      packedDecimal a + packedDecimal v + c.toNat

/-! ### Data transfer (40_data_transfer) -/

/-- R102, R107, R111: MOV r, M, LDA and LDAX load one byte and change nothing else. The order of the address bytes is
the spec's own choice, D2. -/
def Obligations.LoadsOfAByte : Prop :=
  ∀ (s : State),
    (∀ x : Reg8,
      encode (Instr.movRegMem x) = [BitVec.ofNat 8 (0x46 + 8 * x.code)] ∧
      exec (Instr.movRegMem x) s = .next { s.retired 1 with regs := s.regs.set x (s.readByte s.hl) }) ∧
    (∀ a : Word,
      encode (.lda a) = [0x3A#8, lowByte a, highByte a] ∧
      exec (.lda a) s = .next { s.retired 3 with regs := { s.regs with a := s.readByte a } }) ∧
    (∀ p : IndexPair,
      encode (Instr.ldax p) = [BitVec.ofNat 8 (0x0A + 16 * p.code)] ∧
      exec (Instr.ldax p) s = .next { s.retired 1 with regs := { s.regs with a := s.readByte (s.indexPair p) } })

/-- R101, R104, R106: MOV r1, r2 copies a register; MVI r and LXI load an immediate, the operand's low byte first in
memory. That LXI's low byte comes first is the spec's own choice, D2. -/
def Obligations.RegisterMoves : Prop :=
  ∀ (s : State),
    (∀ (x y : Reg8),
      encode (Instr.movRegReg x y) = [BitVec.ofNat 8 (0x40 + 8 * x.code + y.code)] ∧
      exec (Instr.movRegReg x y) s = .next { s.retired 1 with regs := s.regs.set x (s.regs.get y) }) ∧
    (∀ (x : Reg8) (v : Byte),
      encode (Instr.mviReg x v) = [BitVec.ofNat 8 (0x06 + 8 * x.code), v] ∧
      exec (Instr.mviReg x v) s = .next { s.retired 2 with regs := s.regs.set x v }) ∧
    (∀ (p : RegPair) (v : Word),
      encode (Instr.lxi p v) = [BitVec.ofNat 8 (0x01 + 16 * p.code), lowByte v, highByte v] ∧
      exec (Instr.lxi p v) s = .next ((s.retired 3).setPair p v))

/-- R103, R105, R108, R112: MOV M, r, MVI M, STA and STAX store one byte at the address each names, and change nothing
else: every other cell reads as before, and so does a cell that is no ram. The store lost where there is no ram is the
spec's own choice, D21. The order of the address bytes is the spec's own choice, D2. -/
def Obligations.StoresOfAByte : Prop :=
  ∀ (s : State),
    (∀ x : Reg8,
      encode (Instr.movMemReg x) = [BitVec.ofNat 8 (0x70 + x.code)] ∧
      ∃ t, exec (Instr.movMemReg x) s = .next t ∧ s.storedByte t (s.retired 1) s.hl (s.regs.get x)) ∧
    (∀ v : Byte,
      encode (.mviM v) = [0x36#8, v] ∧
      ∃ t, exec (.mviM v) s = .next t ∧ s.storedByte t (s.retired 2) s.hl v) ∧
    (∀ a : Word,
      encode (.sta a) = [0x32#8, lowByte a, highByte a] ∧
      ∃ t, exec (.sta a) s = .next t ∧ s.storedByte t (s.retired 3) a s.regs.a) ∧
    (∀ p : IndexPair,
      encode (Instr.stax p) = [BitVec.ofNat 8 (0x02 + 16 * p.code)] ∧
      ∃ t, exec (Instr.stax p) s = .next t ∧ s.storedByte t (s.retired 1) (s.indexPair p) s.regs.a)

/-- R109, R110, R113: LHLD and SHLD move L at `addr` and H at `addr + 1` modulo 2^16; XCHG exchanges HL with DE. The
order of the address bytes is the spec's own choice, D2. The wrap at the ends of the space is the spec's own choice,
D4, and the store lost where there is no ram its own choice, D21. -/
def Obligations.WordTransfers : Prop :=
  ∀ (s : State),
    (∀ a : Word,
      encode (.lhld a) = [0x2A#8, lowByte a, highByte a] ∧
      exec (.lhld a) s =
        .next { s.retired 3 with regs := { s.regs with l := s.readByte a, h := s.readByte (a + 1) } }) ∧
    (∀ a : Word,
      encode (.shld a) = [0x22#8, lowByte a, highByte a] ∧
      ∃ t, exec (.shld a) s = .next t ∧ s.storedWord t (s.retired 3) a s.regs.l s.regs.h) ∧
    (encode .xchg = [0xEB#8] ∧
      exec .xchg s =
        .next { s.retired 1 with
          regs := { s.regs with h := s.regs.d, l := s.regs.e, d := s.regs.h, e := s.regs.l } })

/-- R58: a word stored by SHLD reads back by LDA as its low byte at the address and its high byte at the next one. The
wrap at FFFFh is the spec's own choice, D4. -/
def Obligations.StoredWordIsLittleEndian : Prop :=
  ∀ (s t : State) (a : Word), s.cellKind a = .ram → s.cellKind (a + 1) = .ram → exec (.shld a) s = .next t →
    (∃ u, exec (.lda a) t = .next u ∧ u.regs.a = s.regs.l) ∧
    (∃ u, exec (.lda (a + 1)) t = .next u ∧ u.regs.a = s.regs.h)

/-- R63: a store into the byte at the next PC is what the next fetch gets. It is the spec's own choice, D19. The wrap
at the ends of the space is the spec's own choice, D4. -/
def Obligations.StoreSeenByNextFetch : Prop :=
  ∀ (s t : State), s.cellKind (s.pc + 3) = .ram → exec (.sta (s.pc + 3)) s = .next t →
    t.pc = s.pc + 3 ∧ t.fetchByte t.pc = s.regs.a

/-! ### Arithmetic (41_arithmetic) -/

/-- R122 to R127: ADD and ADC with a register, M or an immediate. -/
def Obligations.Additions : Prop :=
  ∀ (k : AluOperand) (s : State),
    (encode (k.instr .add) = k.bytes .add ∧
      exec (k.instr .add) s =
        .next (s.withResult k.len (add8 s.regs.a (s.aluOperand k) false).res
          (add8 s.regs.a (s.aluOperand k) false).flags)) ∧
    (encode (k.instr .adc) = k.bytes .adc ∧
      exec (k.instr .adc) s =
        .next (s.withResult k.len (add8 s.regs.a (s.aluOperand k) s.flags.cy).res
          (add8 s.regs.a (s.aluOperand k) s.flags.cy).flags))

/-- R128 to R133: SUB and SBB with a register, M or an immediate. -/
def Obligations.Subtractions : Prop :=
  ∀ (k : AluOperand) (s : State),
    (encode (k.instr .sub) = k.bytes .sub ∧
      exec (k.instr .sub) s =
        .next (s.withResult k.len (sub8 s.regs.a (s.aluOperand k) false).res
          (sub8 s.regs.a (s.aluOperand k) false).flags)) ∧
    (encode (k.instr .sbb) = k.bytes .sbb ∧
      exec (k.instr .sbb) s =
        .next (s.withResult k.len (sub8 s.regs.a (s.aluOperand k) s.flags.cy).res
          (sub8 s.regs.a (s.aluOperand k) s.flags.cy).flags))

/-- R134, R136: INR r and DCR r, with S, Z, AC, P from the result and CY kept. What S, P and AC take is the spec's own
choice (D7, D9). -/
def Obligations.RegisterSteps : Prop :=
  ∀ (x : Reg8) (s : State),
    (encode (Instr.inrReg x) = [BitVec.ofNat 8 (0x04 + 8 * x.code)] ∧
      ∃ res : Byte, res.toNat = ((s.regs.get x).toNat + 1) % 256 ∧
        exec (Instr.inrReg x) s =
          .next { s.retired 1 with
            regs := s.regs.set x res
            flags := { s := decide (res.toNat ≥ 128), z := decide (res.toNat = 0), ac := decide (res.toNat % 16 = 0),
                       p := decide (oneBits res % 2 = 0), cy := s.flags.cy } }) ∧
    (encode (Instr.dcrReg x) = [BitVec.ofNat 8 (0x05 + 8 * x.code)] ∧
      ∃ res : Byte, res.toNat = ((s.regs.get x).toNat + 255) % 256 ∧
        exec (Instr.dcrReg x) s =
          .next { s.retired 1 with
            regs := s.regs.set x res
            flags := { s := decide (res.toNat ≥ 128), z := decide (res.toNat = 0), ac := decide (res.toNat % 16 ≠ 15),
                       p := decide (oneBits res % 2 = 0), cy := s.flags.cy } })

/-- R135, R137: INR M and DCR M: the cell at HL takes the result where it is ram, and the flags come from the computed
result in any case. What S, P and AC take, and the rom cell, are the spec's own choices (D7, D9, D21). -/
def Obligations.MemorySteps : Prop :=
  ∀ (s : State),
    (encode .inrM = [0x34#8] ∧
      ∃ (res : Byte) (t : State), res.toNat = ((s.readByte s.hl).toNat + 1) % 256 ∧ exec .inrM s = .next t ∧
        s.storedByte t
          { s.retired 1 with
            flags := { s := decide (res.toNat ≥ 128), z := decide (res.toNat = 0), ac := decide (res.toNat % 16 = 0),
                       p := decide (oneBits res % 2 = 0), cy := s.flags.cy } }
          s.hl res) ∧
    (encode .dcrM = [0x35#8] ∧
      ∃ (res : Byte) (t : State), res.toNat = ((s.readByte s.hl).toNat + 255) % 256 ∧ exec .dcrM s = .next t ∧
        s.storedByte t
          { s.retired 1 with
            flags := { s := decide (res.toNat ≥ 128), z := decide (res.toNat = 0), ac := decide (res.toNat % 16 ≠ 15),
                       p := decide (oneBits res % 2 = 0), cy := s.flags.cy } }
          s.hl res)

/-- R138, R139, R140: INX and DCX, modulo 2^16, with no flag changed; DAD: HL takes the sum modulo 2^16, CY is its
carry out of bit 15, no other flag changes. What CY takes after DAD is the spec's own inference. The wrap of INX and
DCX is the spec's own choice, D4. -/
def Obligations.PairArithmetic : Prop :=
  ∀ (p : RegPair) (s : State),
    (encode (Instr.inx p) = [BitVec.ofNat 8 (0x03 + 16 * p.code)] ∧
      ∃ v : Word, v.toNat = ((s.pair p).toNat + 1) % 65536 ∧
        exec (Instr.inx p) s = .next ((s.retired 1).setPair p v)) ∧
    (encode (Instr.dcx p) = [BitVec.ofNat 8 (0x0B + 16 * p.code)] ∧
      ∃ v : Word, v.toNat = ((s.pair p).toNat + 65535) % 65536 ∧
        exec (Instr.dcx p) s = .next ((s.retired 1).setPair p v)) ∧
    (encode (Instr.dad p) = [BitVec.ofNat 8 (0x09 + 16 * p.code)] ∧
      exec (Instr.dad p) s =
        .next { (s.retired 1).setPair .hl (BitVec.ofNat 16 (s.hl.toNat + (s.pair p).toNat)) with
          flags := { s.flags with cy := decide (s.hl.toNat + (s.pair p).toNat > 65535) } })

/-- R147: DAA, step by step as the rule's text has it. The algorithm is the spec's own choice, D10 (log 12). What S, P
and AC take is the spec's own choice, D7. -/
def Obligations.DecimalAdjust : Prop :=
  ∀ (s : State),
    encode .daa = [0x27#8] ∧
    ∃ (low high : Bool) (corr : Byte),
      (low = true ↔ s.flags.ac = true ∨ s.regs.a.toNat % 16 > 9) ∧
      (high = true ↔ s.flags.cy = true ∨ s.regs.a.toNat / 16 > 9 ∨
        (s.regs.a.toNat / 16 ≥ 9 ∧ s.regs.a.toNat % 16 > 9)) ∧
      corr.toNat = (if low = true then 6 else 0) + (if high = true then 96 else 0) ∧
      exec .daa s =
        .next (s.withResult 1 (add8 s.regs.a corr false).res
          { (add8 s.regs.a corr false).flags with cy := s.flags.cy || high }) ∧
      ((add8 s.regs.a corr false).flags.ac = true ↔ s.regs.a.toNat % 16 > 9)

/-! ### Logic (42_logical) -/

/-- R150 to R154: ANA and ANI, with AC by the part. What AC takes is the spec's own choice, D8 (log 12), what S and P
take its own choice, D7. -/
def Obligations.LogicalAnd : Prop :=
  ∀ (k : AluOperand) (s : State),
    encode (k.instr .ana) = k.bytes .ana ∧
    ∃ res : Byte, res = s.regs.a &&& s.aluOperand k ∧
      exec (k.instr .ana) s =
        .next (s.withResult k.len res
          { s := decide (res.toNat ≥ 128), z := decide (res.toNat = 0),
            ac := (match s.variant with
              | .i8080 => (s.regs.a ||| s.aluOperand k).getLsbD 3
              | .i8085A => true),
            p := decide (oneBits res % 2 = 0), cy := false })

/-- R155 to R160: XRA, XRI, ORA and ORI, with AC and CY cleared. What S and P take is the spec's own choice, D7. -/
def Obligations.LogicalXorOr : Prop :=
  ∀ (k : AluOperand) (s : State),
    (encode (k.instr .xra) = k.bytes .xra ∧
      ∃ res : Byte, res = s.regs.a ^^^ s.aluOperand k ∧
        exec (k.instr .xra) s =
          .next (s.withResult k.len res
            { s := decide (res.toNat ≥ 128), z := decide (res.toNat = 0), ac := false,
              p := decide (oneBits res % 2 = 0), cy := false })) ∧
    (encode (k.instr .ora) = k.bytes .ora ∧
      ∃ res : Byte, res = s.regs.a ||| s.aluOperand k ∧
        exec (k.instr .ora) s =
          .next (s.withResult k.len res
            { s := decide (res.toNat ≥ 128), z := decide (res.toNat = 0), ac := false,
              p := decide (oneBits res % 2 = 0), cy := false }))

/-- R161 to R163: CMP and CPI take the flags of the subtraction and leave A; Z means equal, CY less than. That CY is
the unsigned less-than and what AC takes are the spec's own choice D9, what S and P take its own choice D7. -/
def Obligations.Compares : Prop :=
  ∀ (k : AluOperand) (s : State),
    encode (k.instr .cmp) = k.bytes .cmp ∧
    ∃ f : Flags, f = (sub8 s.regs.a (s.aluOperand k) false).flags ∧
      exec (k.instr .cmp) s = .next { s.retired k.len with flags := f } ∧
      (f.z = true ↔ s.regs.a = s.aluOperand k) ∧
      (f.cy = true ↔ s.regs.a.toNat < (s.aluOperand k).toNat)

/-- R168 to R171: each rotate moves every bit of A by one place and changes CY alone of the flags. The operations are the
spec's own choice, D11 (log 12). -/
def Obligations.Rotates : Prop :=
  ∀ (s : State),
    (encode .rlc = [0x07#8] ∧ encode .rrc = [0x0F#8] ∧ encode .ral = [0x17#8] ∧ encode .rar = [0x1F#8]) ∧
    (exec .rlc s =
      .next (s.withResult 1 (BitVec.ofNat 8 (2 * s.regs.a.toNat + s.regs.a.toNat / 128))
        { s.flags with cy := s.regs.a.getLsbD 7 })) ∧
    (exec .rrc s =
      .next (s.withResult 1 (BitVec.ofNat 8 (s.regs.a.toNat / 2 + 128 * (s.regs.a.toNat % 2)))
        { s.flags with cy := s.regs.a.getLsbD 0 })) ∧
    (exec .ral s =
      .next (s.withResult 1 (BitVec.ofNat 8 (2 * s.regs.a.toNat + s.flags.cy.toNat))
        { s.flags with cy := s.regs.a.getLsbD 7 })) ∧
    (exec .rar s =
      .next (s.withResult 1 (BitVec.ofNat 8 (s.regs.a.toNat / 2 + 128 * s.flags.cy.toNat))
        { s.flags with cy := s.regs.a.getLsbD 0 }))

/-- R172 to R174: CMA complements every bit of A and changes no flag; CMC and STC write CY alone. -/
def Obligations.ComplementAndCarry : Prop :=
  ∀ (s : State),
    (encode .cma = [0x2F#8] ∧ exec .cma s = .next (s.withResult 1 (s.regs.a ^^^ 0xFF#8) s.flags)) ∧
    (encode .cmc = [0x3F#8] ∧ exec .cmc s = .next { s.retired 1 with flags := { s.flags with cy := !s.flags.cy } }) ∧
    (encode .stc = [0x37#8] ∧ exec .stc s = .next { s.retired 1 with flags := { s.flags with cy := true } })

/-! ### Control transfer (43_branch) -/

/-- R184 to R193: JMP, the eight Jcond and PCHL write PC and nothing else; a false condition leaves PC past the three
bytes. What a false condition does is the spec's own choice, D12, and the order of the address bytes its own choice,
D2. -/
def Obligations.Jumps : Prop :=
  ∀ (s : State),
    (∀ a : Word,
      encode (.jmp a) = [0xC3#8, lowByte a, highByte a] ∧ exec (.jmp a) s = .next { s.retired 3 with pc := a }) ∧
    (∀ (k : Cond) (a : Word),
      encode (Instr.jcond k a) = [BitVec.ofNat 8 (0xC2 + 8 * k.code), lowByte a, highByte a] ∧
      exec (Instr.jcond k a) s =
        .next { s.retired 3 with pc := if s.flags.holds k then a else s.pc + 3 }) ∧
    (encode .pchl = [0xE9#8] ∧ exec .pchl s = .next { s.retired 1 with pc := s.hl })

/-- R183, R194, R212: CALL and RST push the address after the instruction, its high byte at SP - 1 and its low byte at
SP - 2, and go to the target. The address pushed and the reading `8 × n` are the spec's own choices, D3 and D13. The
order of the address bytes is the spec's own choice, D2. The wrap at the ends of the space is the spec's own choice,
D4, and the store lost where there is no ram its own choice, D21. -/
def Obligations.CallsAndRestarts : Prop :=
  ∀ (s : State),
    (∀ a : Word,
      encode (.call a) = [0xCD#8, lowByte a, highByte a] ∧
      ∃ t, exec (.call a) s = .next t ∧
        s.storedWord t { s.retired 3 with pc := a, sp := s.sp - 2 } (s.sp - 2)
          (lowByte (s.pc + 3)) (highByte (s.pc + 3))) ∧
    (∀ n : Fin 8,
      encode (Instr.rst n) = [BitVec.ofNat 8 (0xC7 + 8 * n.val)] ∧
      ∃ t, exec (Instr.rst n) s = .next t ∧
        s.storedWord t { s.retired 1 with pc := BitVec.ofNat 16 (8 * n.val), sp := s.sp - 2 } (s.sp - 2)
          (lowByte (s.pc + 1)) (highByte (s.pc + 1)))

/-- R195 to R202: each Ccond is CALL when its condition holds; when it does not, PC goes past the three bytes and the
stack is not touched. What a false condition does is the spec's own choice, D12. The order of the address bytes is the
spec's own choice, D2. The wrap at the ends of the space is the spec's own choice, D4, and the store lost where there
is no ram its own choice, D21. -/
def Obligations.ConditionalCalls : Prop :=
  ∀ (k : Cond) (a : Word) (s : State),
    encode (Instr.ccond k a) = [BitVec.ofNat 8 (0xC4 + 8 * k.code), lowByte a, highByte a] ∧
    (s.flags.holds k = false → exec (Instr.ccond k a) s = .next (s.retired 3)) ∧
    (s.flags.holds k = true →
      ∃ t, exec (Instr.ccond k a) s = .next t ∧
        s.storedWord t { s.retired 3 with pc := a, sp := s.sp - 2 } (s.sp - 2)
          (lowByte (s.pc + 3)) (highByte (s.pc + 3)))

/-- R203 to R211: RET pops PC, low byte first; each Rcond is RET when its condition holds, and else goes past its one
byte without reading the stack. What a false condition does is the spec's own choice, D12. The wrap at the ends of the
space is the spec's own choice, D4. -/
def Obligations.Returns : Prop :=
  ∀ (s : State),
    (encode .ret = [0xC9#8] ∧
      exec .ret s =
        .next { s.retired 1 with pc := joinBytes (s.readByte (s.sp + 1)) (s.readByte s.sp), sp := s.sp + 2 }) ∧
    (∀ k : Cond,
      encode (Instr.rcond k) = [BitVec.ofNat 8 (0xC0 + 8 * k.code)] ∧
      exec (Instr.rcond k) s =
        if s.flags.holds k then
          .next { s.retired 1 with pc := joinBytes (s.readByte (s.sp + 1)) (s.readByte s.sp), sp := s.sp + 2 }
        else .next (s.retired 1))

/-- R183, R194, R203: on ram, RET after CALL comes back to the address after the CALL with SP restored, wherever it
stands and whatever moved in between but SP and memory. The address pushed is the spec's own choice, D3. The wrap at
the ends of the space is the spec's own choice, D4. -/
def Obligations.ReturnUndoesCall : Prop :=
  ∀ (s t : State) (a p : Word) (r : Regs) (f : Flags),
    s.cellKind (s.sp - 1) = .ram → s.cellKind (s.sp - 2) = .ram → exec (.call a) s = .next t →
    ∃ u, exec .ret { t with pc := p, regs := r, flags := f } = .next u ∧
      u.pc = s.pc + 3 ∧ u.sp = s.sp ∧ u.regs = r ∧ u.flags = f ∧ u.mem = t.mem

/-! ### Stack, ports, machine control (44_stack_io_control) -/

/-- R220, R221: PUSH stores the pair, high byte at SP - 1, low byte at SP - 2; PSW is A and the byte F. The store lost
where there is no ram is the spec's own choice, D21, the wrap of SP its own choice, D4, and the constants of F its own
choice, D6. -/
def Obligations.Pushes : Prop :=
  ∀ (s : State),
    (∀ p : StackPair,
      encode (Instr.push p) = [BitVec.ofNat 8 (0xC5 + 16 * p.code)] ∧
      ∃ t, exec (Instr.push p) s = .next t ∧
        s.storedWord t { s.retired 1 with sp := s.sp - 2 } (s.sp - 2) (s.regs.get p.low) (s.regs.get p.high)) ∧
    (encode .pushPsw = [0xF5#8] ∧
      ∃ t, exec .pushPsw s = .next t ∧
        s.storedWord t { s.retired 1 with sp := s.sp - 2 } (s.sp - 2) s.flags.toByte s.regs.a)

/-- R222, R223: POP loads the pair from SP and SP + 1; POP PSW loads the flags from bits 7, 6, 4, 2, 0 and A. What POP
PSW ignores is the spec's own choice, D6. The wrap at the ends of the space is the spec's own choice, D4. -/
def Obligations.Pops : Prop :=
  ∀ (s : State),
    (∀ p : StackPair,
      encode (Instr.pop p) = [BitVec.ofNat 8 (0xC1 + 16 * p.code)] ∧
      exec (Instr.pop p) s =
        .next { s.retired 1 with
          regs := (s.regs.set p.low (s.readByte s.sp)).set p.high (s.readByte (s.sp + 1))
          sp := s.sp + 2 }) ∧
    (encode .popPsw = [0xF1#8] ∧
      exec .popPsw s =
        .next { s.retired 1 with
          regs := { s.regs with a := s.readByte (s.sp + 1) }
          flags := { s := (s.readByte s.sp).getLsbD 7, z := (s.readByte s.sp).getLsbD 6,
                     ac := (s.readByte s.sp).getLsbD 4, p := (s.readByte s.sp).getLsbD 2,
                     cy := (s.readByte s.sp).getLsbD 0 }
          sp := s.sp + 2 })

/-- R183: on ram, POP of a pair right after its PUSH restores every register, the flags and SP; so does POP PSW. That
no other bit of F is held is the spec's own choice, D6. The wrap at the ends of the space is the spec's own choice,
D4. -/
def Obligations.PopUndoesPush : Prop :=
  ∀ (s t : State), s.cellKind (s.sp - 1) = .ram → s.cellKind (s.sp - 2) = .ram →
    (∀ p : StackPair, exec (Instr.push p) s = .next t →
      ∃ u, exec (Instr.pop p) t = .next u ∧ u.regs = s.regs ∧ u.sp = s.sp ∧ u.flags = s.flags) ∧
    (exec .pushPsw s = .next t →
      ∃ u, exec .popPsw t = .next u ∧ u.regs = s.regs ∧ u.sp = s.sp ∧ u.flags = s.flags)

/-- R224, R225: XTHL exchanges L with the cell at SP and H with the one at SP + 1; SPHL copies HL to SP. The wrap at
the ends of the space is the spec's own choice, D4, and the store lost where there is no ram its own choice, D21. -/
def Obligations.StackExchange : Prop :=
  ∀ (s : State),
    (encode .xthl = [0xE3#8] ∧
      ∃ t, exec .xthl s = .next t ∧
        s.storedWord t
          { s.retired 1 with regs := { s.regs with l := s.readByte s.sp, h := s.readByte (s.sp + 1) } }
          s.sp s.regs.l s.regs.h) ∧
    (encode .sphl = [0xF9#8] ∧ exec .sphl s = .next { s.retired 1 with sp := s.hl })

/-- R230, R231: IN takes the environment's answer into A, OUT gives A to it; each is one event at the end of the
trace. Where State lists no answer, the byte read is a free value. The environment is the spec's own choice, D22; its
list and the free value are the model's, log 7. -/
def Obligations.PortTransfers : Prop :=
  ∀ (port : Byte) (s : State),
    (encode (.inPort port) = [0xDB#8, port] ∧
      ∃ v : Byte, (∀ w, s.portIn.head? = some w → v = w) ∧
        exec (.inPort port) s =
          .next { s.retired 2 with
            regs := { s.regs with a := v }
            portIn := s.portIn.tail
            trace := s.trace ++ [.portIn port v] }) ∧
    (encode (.outPort port) = [0xD3#8, port] ∧
      exec (.outPort port) s = .next { s.retired 2 with trace := s.trace ++ [.portOut port s.regs.a] })

/-- R236 to R239: EI raises `ei_pending` alone (with an EI before it, INTE too, R235); DI clears both at once; HLT
stops the processor with PC past it; NOP does nothing but move PC. The delay of EI and the halt are the spec's own
choices, D14 and D15. -/
def Obligations.MachineControl : Prop :=
  ∀ (s : State),
    (encode .ei = [0xFB#8] ∧
      exec .ei s = .next { s with pc := s.pc + 1, inte := s.inte || s.eiPending, eiPending := true }) ∧
    (encode .di = [0xF3#8] ∧ exec .di s = .next { s with pc := s.pc + 1, inte := false, eiPending := false }) ∧
    (encode .hlt = [0x76#8] ∧ exec .hlt s = .next { s.retired 1 with halted := true }) ∧
    (encode .nop = [0x00#8] ∧ exec .nop s = .next (s.retired 1))

/-- R240: SIM, bit by bit, on the 8085A, a write of SOD being an event (R272); on the 8080 its byte is undefined. The
format is the spec's own, from general knowledge, U8 (log 12). -/
def Obligations.SetInterruptMask : Prop :=
  ∀ (s : State),
    encode .sim = [0x30#8] ∧
    (s.variant = .i8080 → exec .sim s = .fault (.undefinedOpcode 0x30#8 s.pc)) ∧
    (s.variant = .i8085A → ∃ t, exec .sim s = .next t ∧
      { t with serial := s.serial, trace := s.trace } = s.retired 1 ∧
      (s.regs.a.getLsbD 3 = true → t.serial.m75 = s.regs.a.getLsbD 2 ∧ t.serial.m65 = s.regs.a.getLsbD 1 ∧
        t.serial.m55 = s.regs.a.getLsbD 0) ∧
      (s.regs.a.getLsbD 3 = false → t.serial.m75 = s.serial.m75 ∧ t.serial.m65 = s.serial.m65 ∧
        t.serial.m55 = s.serial.m55) ∧
      t.serial.i75 = (s.serial.i75 && !s.regs.a.getLsbD 4) ∧
      (s.regs.a.getLsbD 6 = true → t.serial.sod = s.regs.a.getLsbD 7 ∧
        t.trace = s.trace ++ [.sodWrite (s.regs.a.getLsbD 7)]) ∧
      (s.regs.a.getLsbD 6 = false → t.serial.sod = s.serial.sod ∧ t.trace = s.trace))

/-- R241: RIM's byte, bit by bit; right after EI its bit 3 is unspecified (U9), a free value here. On the 8080 its
byte is undefined. The format is the spec's own, from general knowledge, U8 (log 12), the free value is log 9. That
bit 3 is INTE also in the first RIM after a TRAP is the rule's, though a real part shows another value there: U10, log
10 (DEDUCED, unsafe). -/
def Obligations.ReadInterruptMask : Prop :=
  ∀ (s : State),
    encode .rim = [0x20#8] ∧
    (s.variant = .i8080 → exec .rim s = .fault (.undefinedOpcode 0x20#8 s.pc)) ∧
    (s.variant = .i8085A → ∃ v : Byte,
      exec .rim s =
        .next { s.retired 1 with
          regs := { s.regs with a := v }
          trace := s.trace ++ [.sidRead s.pins.sid] } ∧
      v.getLsbD 7 = s.pins.sid ∧ v.getLsbD 6 = s.serial.i75 ∧ v.getLsbD 5 = s.pins.rst65 ∧
      v.getLsbD 4 = s.pins.rst55 ∧ (s.eiPending = false → v.getLsbD 3 = s.inte) ∧
      v.getLsbD 2 = s.serial.m75 ∧ v.getLsbD 1 = s.serial.m65 ∧ v.getLsbD 0 = s.serial.m55)

/-! ### Interrupts (60_exceptions) -/

/-- R257, R260: which request a boundary chooses: none exactly when none is acceptable, else the first acceptable one
in the order of priority; on the 8080 INT alone. The sources and the order are the spec's own choices, D16, D17, D32.
-/
def Obligations.RequestPriority : Prop :=
  ∀ (s : State) (on a75 a65 a55 : Prop),
    (on ↔ s.inte = true ∧ s.eiPending = false) →
    (a75 ↔ on ∧ s.serial.m75 = false ∧ s.serial.i75 = true) →
    (a65 ↔ on ∧ s.serial.m65 = false ∧ s.pins.rst65 = true) →
    (a55 ↔ on ∧ s.serial.m55 = false ∧ s.pins.rst55 = true) →
    (s.variant = .i8085A →
      (s.select = some .trap ↔ s.pins.trap = true) ∧
      (s.select = some .rst75 ↔ s.pins.trap = false ∧ a75) ∧
      (s.select = some .rst65 ↔ s.pins.trap = false ∧ ¬a75 ∧ a65) ∧
      (s.select = some .rst55 ↔ s.pins.trap = false ∧ ¬a75 ∧ ¬a65 ∧ a55) ∧
      (∀ bs, s.select = some (.intr bs) ↔
        s.pins.trap = false ∧ ¬a75 ∧ ¬a65 ∧ ¬a55 ∧ on ∧ s.pins.intr = some bs)) ∧
    (s.variant = .i8080 →
      ∀ req, s.select = some req ↔ ∃ bs, req = .intr bs ∧ on ∧ s.pins.intr = some bs)

/-- R259, R261, R266 (a): a step whose boundary chooses TRAP, RST 7.5, RST 6.5 or RST 5.5 pushes PC as it stands, goes
to the vector, clears INTE, `ei_pending` and `halted`, clears the latch for RST 7.5, and changes nothing else. It is
the spec's own choice, D17. The wrap at the ends of the space is the spec's own choice, D4, and the store lost where
there is no ram its own choice, D21. -/
def Obligations.VectoredAcceptance : Prop :=
  ∀ (s : State), s.fault = none →
    (∀ (req : Request) (vector : Word),
      (req = .trap ∧ vector = 0x0024#16 ∨ req = .rst65 ∧ vector = 0x0034#16 ∨ req = .rst55 ∧ vector = 0x002C#16) →
      s.sample.select = some req →
      ∃ t, step s = .next t ∧
        s.sample.storedWord t
          { s.sample with inte := false, eiPending := false, halted := false, sp := s.sp - 2, pc := vector }
          (s.sp - 2) (lowByte s.pc) (highByte s.pc)) ∧
    (s.sample.select = some .rst75 →
      ∃ t, step s = .next t ∧
        s.sample.storedWord t
          { s.sample with
            inte := false, eiPending := false, halted := false, sp := s.sp - 2, pc := 0x003C#16
            serial := { s.serial with i75 := false } }
          (s.sp - 2) (lowByte s.pc) (highByte s.pc))

/-- R258, R265: a step whose boundary chooses INT or INTR executes the supplied `RST n` or `CALL addr` with PC as it
stands pushed, and faults on any other supplied instruction. It is the spec's own choice, D16; the exact bytes
admitted are the model's, log 15. The wrap at the ends of the space is the spec's own choice, D4, and the store lost
where there is no ram its own choice, D21. -/
def Obligations.SuppliedAcceptance : Prop :=
  ∀ (s : State) (bs : List Byte), s.fault = none → s.sample.select = some (.intr bs) →
    (∀ (target : Word),
      ((∃ n : Fin 8, bs = [BitVec.ofNat 8 (0xC7 + 8 * n.val)] ∧ target = BitVec.ofNat 16 (8 * n.val)) ∨
        (∃ lo hi : Byte, bs = [0xCD#8, lo, hi] ∧ target = joinBytes hi lo)) →
      ∃ t, step s = .next t ∧
        s.sample.storedWord t
          { s.sample with inte := false, eiPending := false, halted := false, sp := s.sp - 2, pc := target }
          (s.sp - 2) (lowByte s.pc) (highByte s.pc)) ∧
    ((∀ n : Fin 8, bs ≠ [BitVec.ofNat 8 (0xC7 + 8 * n.val)]) → (∀ lo hi : Byte, bs ≠ [0xCD#8, lo, hi]) →
      step s = .fault (.intInstrRefused bs))

/-- R262, R293: a halt with INTE = 0 is permanent, on the 8080 whatever the environment reports, on the 8085A while it
reports no TRAP: such a state is final, and no step changes what the processor holds, but that an edge on RST 7.5 of
an 8085A is latched in I7.5, and stays so. That a halt ends so is the spec's own choice, D15; that no request comes
once the list of reports is used up, on which "permanent" rests, is the model's, log 8 (unsafe for endless runs). The
latch is the spec's own choice, D17, and an 8080's lack of one log 16. -/
def Obligations.HaltIsFinal : Prop :=
  ∀ (s : State), s.fault = none → s.halted = true → s.inte = false →
    (s.variant = .i8080 ∨ ∀ p ∈ s.schedule, p.trap = false) →
    s.final ∧ ∀ n : Nat, s.sameProcessor (s.after n) ∧
      (s.after n).serial.i75 =
        if s.variant = .i8085A then s.serial.i75 || (s.schedule.take n).any (·.rst75) else s.serial.i75

/-- R236, R257, R263, R295: a handler that ends in EI and RET is back, with interrupts enabled, after two steps,
whatever maskable requests are present, where the two instruction bytes and the two stack bytes are in cells that are
not absent and no TRAP is reported at the two boundaries. The delay of EI is the spec's own choice, D14. The wrap at
the ends of the space is the spec's own choice, D4. -/
def Obligations.HandlerReturns : Prop :=
  ∀ (s : State),
    s.fault = none → s.halted = false → s.inte = false → s.eiPending = false →
    (s.variant = .i8080 ∨ ∀ p ∈ s.schedule.take 2, p.trap = false) →
    (∀ a ∈ [s.pc, s.pc + 1, s.sp, s.sp + 1], s.cellKind a ≠ .absent) →
    s.readByte s.pc = 0xFB#8 → s.readByte (s.pc + 1) = 0xC9#8 →
    (s.after 2).pc = joinBytes (s.readByte (s.sp + 1)) (s.readByte s.sp) ∧ (s.after 2).sp = s.sp + 2 ∧
    (s.after 2).inte = true ∧ (s.after 2).eiPending = false ∧ (s.after 2).fault = none ∧
    (s.after 2).halted = false ∧ (s.after 2).regs = s.regs ∧ (s.after 2).flags = s.flags ∧ (s.after 2).mem = s.mem

/-! ### Reset (10_state R43, 70_reset_and_hazards R290) -/

/-- R290: the reset event on any state, and that nothing else changes. It is the spec's own choice, D23; on the
model's states it is log 17. -/
def Obligations.ResetEvent : Prop :=
  ∀ (s : State),
    (s.variant = .i8085A →
      s.resetEvent = { s with
        pc := 0x0000#16, inte := false, eiPending := false, halted := false, fault := none
        serial := { m55 := true, m65 := true, m75 := true, i75 := false, sod := false } }) ∧
    (s.variant = .i8080 →
      s.resetEvent = { s with
        pc := 0x0000#16, inte := false, eiPending := false, halted := false, fault := none })

/-- THE MODEL'S CHOICE (log 1, log 2, log 3, log 4, log 7, log 8): the state after reset is one the reset event leaves
as it is; the registers, flags and SP that R43 leaves unspecified are 0, the part is the 8085A, all memory is ram that
reads 00h, every input is low, and the lists of reports and of port answers and the trace are empty. A step takes one
report off the list and adds none. -/
def Obligations.ResetStateChosen : Prop :=
  State.reset.resetEvent = State.reset ∧
  State.reset.variant = .i8085A ∧
  (∀ x : Reg8, State.reset.regs.get x = 0x00#8) ∧ State.reset.sp = 0x0000#16 ∧
  State.reset.flags.toByte = 0x02#8 ∧
  (∀ a : Word, State.reset.cellKind a = .ram ∧ State.reset.readByte a = 0x00#8) ∧
  State.reset.pins = Pins.quiet ∧ State.reset.schedule = [] ∧ State.reset.portIn = [] ∧ State.reset.trace = [] ∧
  (∀ (s t : State), step s = .next t → t.schedule = s.schedule.tail)

/-! ### Invariants -/

/-- R50, R20: the memory's canonical form (equal memories are equal lists) holds in the state after reset. The form
and the byte an unlisted cell reads as are the model's, log 3. -/
def Obligations.MemoryFormAtReset : Prop := State.reset.wf = true

/-- R50, R20: every step from every state keeps the memory's canonical form. The form and the byte an unlisted cell
reads as are the model's, log 3. -/
def Obligations.MemoryFormKept : Prop :=
  ∀ (s t : State), s.wf = true → step s = .next t → t.wf = true

/-- R55: every step keeps the part, the map, and every rom cell's content: a machine whose rom holds an image goes on
holding it. What rom is, is the spec's own choice, D21; the map as a list is the model's, log 4. -/
def Obligations.RomImageKept : Prop :=
  ∀ (image : Word → Byte) (s t : State),
    (∀ a, s.cellKind a = .rom → s.readByte a = image a) → step s = .next t →
    t.variant = s.variant ∧ t.memMap = s.memMap ∧ (∀ a, t.cellKind a = .rom → t.readByte a = image a)

/-- R57, R293: the observable events of a run are never taken back: every step leaves the trace as it was or adds one
event at its end. The trace is the spec's own choice, D22. -/
def Obligations.TraceGrows : Prop :=
  ∀ (s t : State), step s = .next t → t.trace = s.trace ∨ ∃ e, t.trace = s.trace ++ [e]
end

