-- ==== Sys2Proof/Laws/State.lean ====
section
/-!
SUPPORT. The small lemmas of the state: for each update, what every field of the state is after it. With them
no later proof unfolds a record update.
-/

namespace Sys2Proof.Machine

/-! ### advance -/

@[simp] theorem State.advance_variant (s : State) (len : Word) : (s.advance len).variant = s.variant := rfl
@[simp] theorem State.advance_memMap (s : State) (len : Word) : (s.advance len).memMap = s.memMap := rfl
@[simp] theorem State.advance_regs (s : State) (len : Word) : (s.advance len).regs = s.regs := rfl
@[simp] theorem State.advance_sp (s : State) (len : Word) : (s.advance len).sp = s.sp := rfl
@[simp] theorem State.advance_flags (s : State) (len : Word) : (s.advance len).flags = s.flags := rfl
@[simp] theorem State.advance_inte (s : State) (len : Word) : (s.advance len).inte = s.inte := rfl
@[simp] theorem State.advance_eiPending (s : State) (len : Word) : (s.advance len).eiPending = s.eiPending := rfl
@[simp] theorem State.advance_halted (s : State) (len : Word) : (s.advance len).halted = s.halted := rfl
@[simp] theorem State.advance_serial (s : State) (len : Word) : (s.advance len).serial = s.serial := rfl
@[simp] theorem State.advance_fault (s : State) (len : Word) : (s.advance len).fault = s.fault := rfl
@[simp] theorem State.advance_mem (s : State) (len : Word) : (s.advance len).mem = s.mem := rfl
@[simp] theorem State.advance_pins (s : State) (len : Word) : (s.advance len).pins = s.pins := rfl
@[simp] theorem State.advance_schedule (s : State) (len : Word) : (s.advance len).schedule = s.schedule := rfl
@[simp] theorem State.advance_portIn (s : State) (len : Word) : (s.advance len).portIn = s.portIn := rfl
@[simp] theorem State.advance_trace (s : State) (len : Word) : (s.advance len).trace = s.trace := rfl
@[simp] theorem State.advance_tick (s : State) (len : Word) : (s.advance len).tick = s.tick := rfl
@[simp] theorem State.advance_pc (s : State) (len : Word) : (s.advance len).pc = s.pc + len := rfl

/-! ### complete -/

@[simp] theorem State.complete_variant (s : State) (cls : InstrClass) (eip0 : Bool) : (s.complete cls eip0).variant = s.variant := rfl
@[simp] theorem State.complete_memMap (s : State) (cls : InstrClass) (eip0 : Bool) : (s.complete cls eip0).memMap = s.memMap := rfl
@[simp] theorem State.complete_regs (s : State) (cls : InstrClass) (eip0 : Bool) : (s.complete cls eip0).regs = s.regs := rfl
@[simp] theorem State.complete_sp (s : State) (cls : InstrClass) (eip0 : Bool) : (s.complete cls eip0).sp = s.sp := rfl
@[simp] theorem State.complete_pc (s : State) (cls : InstrClass) (eip0 : Bool) : (s.complete cls eip0).pc = s.pc := rfl
@[simp] theorem State.complete_flags (s : State) (cls : InstrClass) (eip0 : Bool) : (s.complete cls eip0).flags = s.flags := rfl
@[simp] theorem State.complete_halted (s : State) (cls : InstrClass) (eip0 : Bool) : (s.complete cls eip0).halted = s.halted := rfl
@[simp] theorem State.complete_serial (s : State) (cls : InstrClass) (eip0 : Bool) : (s.complete cls eip0).serial = s.serial := rfl
@[simp] theorem State.complete_fault (s : State) (cls : InstrClass) (eip0 : Bool) : (s.complete cls eip0).fault = s.fault := rfl
@[simp] theorem State.complete_mem (s : State) (cls : InstrClass) (eip0 : Bool) : (s.complete cls eip0).mem = s.mem := rfl
@[simp] theorem State.complete_pins (s : State) (cls : InstrClass) (eip0 : Bool) : (s.complete cls eip0).pins = s.pins := rfl
@[simp] theorem State.complete_schedule (s : State) (cls : InstrClass) (eip0 : Bool) : (s.complete cls eip0).schedule = s.schedule := rfl
@[simp] theorem State.complete_portIn (s : State) (cls : InstrClass) (eip0 : Bool) : (s.complete cls eip0).portIn = s.portIn := rfl
@[simp] theorem State.complete_trace (s : State) (cls : InstrClass) (eip0 : Bool) : (s.complete cls eip0).trace = s.trace := rfl
@[simp] theorem State.complete_tick (s : State) (cls : InstrClass) (eip0 : Bool) : (s.complete cls eip0).tick = s.tick := rfl

/-! ### setReg -/

@[simp] theorem State.setReg_variant (s : State) (x : Reg8) (v : Byte) : (s.setReg x v).variant = s.variant := rfl
@[simp] theorem State.setReg_memMap (s : State) (x : Reg8) (v : Byte) : (s.setReg x v).memMap = s.memMap := rfl
@[simp] theorem State.setReg_sp (s : State) (x : Reg8) (v : Byte) : (s.setReg x v).sp = s.sp := rfl
@[simp] theorem State.setReg_pc (s : State) (x : Reg8) (v : Byte) : (s.setReg x v).pc = s.pc := rfl
@[simp] theorem State.setReg_flags (s : State) (x : Reg8) (v : Byte) : (s.setReg x v).flags = s.flags := rfl
@[simp] theorem State.setReg_inte (s : State) (x : Reg8) (v : Byte) : (s.setReg x v).inte = s.inte := rfl
@[simp] theorem State.setReg_eiPending (s : State) (x : Reg8) (v : Byte) : (s.setReg x v).eiPending = s.eiPending := rfl
@[simp] theorem State.setReg_halted (s : State) (x : Reg8) (v : Byte) : (s.setReg x v).halted = s.halted := rfl
@[simp] theorem State.setReg_serial (s : State) (x : Reg8) (v : Byte) : (s.setReg x v).serial = s.serial := rfl
@[simp] theorem State.setReg_fault (s : State) (x : Reg8) (v : Byte) : (s.setReg x v).fault = s.fault := rfl
@[simp] theorem State.setReg_mem (s : State) (x : Reg8) (v : Byte) : (s.setReg x v).mem = s.mem := rfl
@[simp] theorem State.setReg_pins (s : State) (x : Reg8) (v : Byte) : (s.setReg x v).pins = s.pins := rfl
@[simp] theorem State.setReg_schedule (s : State) (x : Reg8) (v : Byte) : (s.setReg x v).schedule = s.schedule := rfl
@[simp] theorem State.setReg_portIn (s : State) (x : Reg8) (v : Byte) : (s.setReg x v).portIn = s.portIn := rfl
@[simp] theorem State.setReg_trace (s : State) (x : Reg8) (v : Byte) : (s.setReg x v).trace = s.trace := rfl
@[simp] theorem State.setReg_tick (s : State) (x : Reg8) (v : Byte) : (s.setReg x v).tick = s.tick := rfl
@[simp] theorem State.setReg_regs (s : State) (x : Reg8) (v : Byte) : (s.setReg x v).regs = s.regs.set x v := rfl

/-! ### setPair -/

@[simp] theorem State.setPair_variant (s : State) (x : RegPair) (v : Word) : (s.setPair x v).variant = s.variant := by cases x <;> rfl
@[simp] theorem State.setPair_memMap (s : State) (x : RegPair) (v : Word) : (s.setPair x v).memMap = s.memMap := by cases x <;> rfl
@[simp] theorem State.setPair_pc (s : State) (x : RegPair) (v : Word) : (s.setPair x v).pc = s.pc := by cases x <;> rfl
@[simp] theorem State.setPair_flags (s : State) (x : RegPair) (v : Word) : (s.setPair x v).flags = s.flags := by cases x <;> rfl
@[simp] theorem State.setPair_inte (s : State) (x : RegPair) (v : Word) : (s.setPair x v).inte = s.inte := by cases x <;> rfl
@[simp] theorem State.setPair_eiPending (s : State) (x : RegPair) (v : Word) : (s.setPair x v).eiPending = s.eiPending := by cases x <;> rfl
@[simp] theorem State.setPair_halted (s : State) (x : RegPair) (v : Word) : (s.setPair x v).halted = s.halted := by cases x <;> rfl
@[simp] theorem State.setPair_serial (s : State) (x : RegPair) (v : Word) : (s.setPair x v).serial = s.serial := by cases x <;> rfl
@[simp] theorem State.setPair_fault (s : State) (x : RegPair) (v : Word) : (s.setPair x v).fault = s.fault := by cases x <;> rfl
@[simp] theorem State.setPair_mem (s : State) (x : RegPair) (v : Word) : (s.setPair x v).mem = s.mem := by cases x <;> rfl
@[simp] theorem State.setPair_pins (s : State) (x : RegPair) (v : Word) : (s.setPair x v).pins = s.pins := by cases x <;> rfl
@[simp] theorem State.setPair_schedule (s : State) (x : RegPair) (v : Word) : (s.setPair x v).schedule = s.schedule := by cases x <;> rfl
@[simp] theorem State.setPair_portIn (s : State) (x : RegPair) (v : Word) : (s.setPair x v).portIn = s.portIn := by cases x <;> rfl
@[simp] theorem State.setPair_trace (s : State) (x : RegPair) (v : Word) : (s.setPair x v).trace = s.trace := by cases x <;> rfl
@[simp] theorem State.setPair_tick (s : State) (x : RegPair) (v : Word) : (s.setPair x v).tick = s.tick := by cases x <;> rfl

@[simp] theorem State.setPair_bc_regs (s : State) (v : Word) :
    (s.setPair .bc v).regs = { s.regs with b := highByte v, c := lowByte v } := rfl
@[simp] theorem State.setPair_bc_sp (s : State) (v : Word) : (s.setPair .bc v).sp = s.sp := rfl
@[simp] theorem State.setPair_de_regs (s : State) (v : Word) :
    (s.setPair .de v).regs = { s.regs with d := highByte v, e := lowByte v } := rfl
@[simp] theorem State.setPair_de_sp (s : State) (v : Word) : (s.setPair .de v).sp = s.sp := rfl
@[simp] theorem State.setPair_hl_regs (s : State) (v : Word) :
    (s.setPair .hl v).regs = { s.regs with h := highByte v, l := lowByte v } := rfl
@[simp] theorem State.setPair_hl_sp (s : State) (v : Word) : (s.setPair .hl v).sp = s.sp := rfl
@[simp] theorem State.setPair_sp_regs (s : State) (v : Word) : (s.setPair .sp v).regs = s.regs := rfl
@[simp] theorem State.setPair_sp_sp (s : State) (v : Word) : (s.setPair .sp v).sp = v := rfl

/-! ### writeByte -/

@[simp] theorem State.writeByte_variant (s : State) (a : Word) (v : Byte) : (s.writeByte a v).variant = s.variant := rfl
@[simp] theorem State.writeByte_memMap (s : State) (a : Word) (v : Byte) : (s.writeByte a v).memMap = s.memMap := rfl
@[simp] theorem State.writeByte_regs (s : State) (a : Word) (v : Byte) : (s.writeByte a v).regs = s.regs := rfl
@[simp] theorem State.writeByte_sp (s : State) (a : Word) (v : Byte) : (s.writeByte a v).sp = s.sp := rfl
@[simp] theorem State.writeByte_pc (s : State) (a : Word) (v : Byte) : (s.writeByte a v).pc = s.pc := rfl
@[simp] theorem State.writeByte_flags (s : State) (a : Word) (v : Byte) : (s.writeByte a v).flags = s.flags := rfl
@[simp] theorem State.writeByte_inte (s : State) (a : Word) (v : Byte) : (s.writeByte a v).inte = s.inte := rfl
@[simp] theorem State.writeByte_eiPending (s : State) (a : Word) (v : Byte) : (s.writeByte a v).eiPending = s.eiPending := rfl
@[simp] theorem State.writeByte_halted (s : State) (a : Word) (v : Byte) : (s.writeByte a v).halted = s.halted := rfl
@[simp] theorem State.writeByte_serial (s : State) (a : Word) (v : Byte) : (s.writeByte a v).serial = s.serial := rfl
@[simp] theorem State.writeByte_fault (s : State) (a : Word) (v : Byte) : (s.writeByte a v).fault = s.fault := rfl
@[simp] theorem State.writeByte_pins (s : State) (a : Word) (v : Byte) : (s.writeByte a v).pins = s.pins := rfl
@[simp] theorem State.writeByte_schedule (s : State) (a : Word) (v : Byte) : (s.writeByte a v).schedule = s.schedule := rfl
@[simp] theorem State.writeByte_portIn (s : State) (a : Word) (v : Byte) : (s.writeByte a v).portIn = s.portIn := rfl
@[simp] theorem State.writeByte_trace (s : State) (a : Word) (v : Byte) : (s.writeByte a v).trace = s.trace := rfl
@[simp] theorem State.writeByte_tick (s : State) (a : Word) (v : Byte) : (s.writeByte a v).tick = s.tick := rfl
@[simp] theorem State.writeByte_mem (s : State) (a : Word) (v : Byte) : (s.writeByte a v).mem = s.memAfterWrite a v := rfl

/-! ### setM -/

@[simp] theorem State.setM_variant (s : State) (v : Byte) : (s.setM v).variant = s.variant := rfl
@[simp] theorem State.setM_memMap (s : State) (v : Byte) : (s.setM v).memMap = s.memMap := rfl
@[simp] theorem State.setM_regs (s : State) (v : Byte) : (s.setM v).regs = s.regs := rfl
@[simp] theorem State.setM_sp (s : State) (v : Byte) : (s.setM v).sp = s.sp := rfl
@[simp] theorem State.setM_pc (s : State) (v : Byte) : (s.setM v).pc = s.pc := rfl
@[simp] theorem State.setM_flags (s : State) (v : Byte) : (s.setM v).flags = s.flags := rfl
@[simp] theorem State.setM_inte (s : State) (v : Byte) : (s.setM v).inte = s.inte := rfl
@[simp] theorem State.setM_eiPending (s : State) (v : Byte) : (s.setM v).eiPending = s.eiPending := rfl
@[simp] theorem State.setM_halted (s : State) (v : Byte) : (s.setM v).halted = s.halted := rfl
@[simp] theorem State.setM_serial (s : State) (v : Byte) : (s.setM v).serial = s.serial := rfl
@[simp] theorem State.setM_fault (s : State) (v : Byte) : (s.setM v).fault = s.fault := rfl
@[simp] theorem State.setM_pins (s : State) (v : Byte) : (s.setM v).pins = s.pins := rfl
@[simp] theorem State.setM_schedule (s : State) (v : Byte) : (s.setM v).schedule = s.schedule := rfl
@[simp] theorem State.setM_portIn (s : State) (v : Byte) : (s.setM v).portIn = s.portIn := rfl
@[simp] theorem State.setM_trace (s : State) (v : Byte) : (s.setM v).trace = s.trace := rfl
@[simp] theorem State.setM_tick (s : State) (v : Byte) : (s.setM v).tick = s.tick := rfl

/-! ### pushBytes -/

@[simp] theorem State.pushBytes_variant (s : State) (vh vl : Byte) : (s.pushBytes vh vl).variant = s.variant := rfl
@[simp] theorem State.pushBytes_memMap (s : State) (vh vl : Byte) : (s.pushBytes vh vl).memMap = s.memMap := rfl
@[simp] theorem State.pushBytes_regs (s : State) (vh vl : Byte) : (s.pushBytes vh vl).regs = s.regs := rfl
@[simp] theorem State.pushBytes_pc (s : State) (vh vl : Byte) : (s.pushBytes vh vl).pc = s.pc := rfl
@[simp] theorem State.pushBytes_flags (s : State) (vh vl : Byte) : (s.pushBytes vh vl).flags = s.flags := rfl
@[simp] theorem State.pushBytes_inte (s : State) (vh vl : Byte) : (s.pushBytes vh vl).inte = s.inte := rfl
@[simp] theorem State.pushBytes_eiPending (s : State) (vh vl : Byte) : (s.pushBytes vh vl).eiPending = s.eiPending := rfl
@[simp] theorem State.pushBytes_halted (s : State) (vh vl : Byte) : (s.pushBytes vh vl).halted = s.halted := rfl
@[simp] theorem State.pushBytes_serial (s : State) (vh vl : Byte) : (s.pushBytes vh vl).serial = s.serial := rfl
@[simp] theorem State.pushBytes_fault (s : State) (vh vl : Byte) : (s.pushBytes vh vl).fault = s.fault := rfl
@[simp] theorem State.pushBytes_pins (s : State) (vh vl : Byte) : (s.pushBytes vh vl).pins = s.pins := rfl
@[simp] theorem State.pushBytes_schedule (s : State) (vh vl : Byte) : (s.pushBytes vh vl).schedule = s.schedule := rfl
@[simp] theorem State.pushBytes_portIn (s : State) (vh vl : Byte) : (s.pushBytes vh vl).portIn = s.portIn := rfl
@[simp] theorem State.pushBytes_trace (s : State) (vh vl : Byte) : (s.pushBytes vh vl).trace = s.trace := rfl
@[simp] theorem State.pushBytes_tick (s : State) (vh vl : Byte) : (s.pushBytes vh vl).tick = s.tick := rfl

@[simp] theorem State.pushBytes_sp (s : State) (vh vl : Byte) : (s.pushBytes vh vl).sp = s.sp - 1 - 1 := rfl

/-! ### push16 -/

@[simp] theorem State.push16_variant (s : State) (v : Word) : (s.push16 v).variant = s.variant := rfl
@[simp] theorem State.push16_memMap (s : State) (v : Word) : (s.push16 v).memMap = s.memMap := rfl
@[simp] theorem State.push16_regs (s : State) (v : Word) : (s.push16 v).regs = s.regs := rfl
@[simp] theorem State.push16_pc (s : State) (v : Word) : (s.push16 v).pc = s.pc := rfl
@[simp] theorem State.push16_flags (s : State) (v : Word) : (s.push16 v).flags = s.flags := rfl
@[simp] theorem State.push16_inte (s : State) (v : Word) : (s.push16 v).inte = s.inte := rfl
@[simp] theorem State.push16_eiPending (s : State) (v : Word) : (s.push16 v).eiPending = s.eiPending := rfl
@[simp] theorem State.push16_halted (s : State) (v : Word) : (s.push16 v).halted = s.halted := rfl
@[simp] theorem State.push16_serial (s : State) (v : Word) : (s.push16 v).serial = s.serial := rfl
@[simp] theorem State.push16_fault (s : State) (v : Word) : (s.push16 v).fault = s.fault := rfl
@[simp] theorem State.push16_pins (s : State) (v : Word) : (s.push16 v).pins = s.pins := rfl
@[simp] theorem State.push16_schedule (s : State) (v : Word) : (s.push16 v).schedule = s.schedule := rfl
@[simp] theorem State.push16_portIn (s : State) (v : Word) : (s.push16 v).portIn = s.portIn := rfl
@[simp] theorem State.push16_trace (s : State) (v : Word) : (s.push16 v).trace = s.trace := rfl
@[simp] theorem State.push16_tick (s : State) (v : Word) : (s.push16 v).tick = s.tick := rfl

@[simp] theorem State.push16_sp (s : State) (v : Word) : (s.push16 v).sp = s.sp - 1 - 1 := rfl

/-! ### dropWord -/

@[simp] theorem State.dropWord_variant (s : State) : (s.dropWord).variant = s.variant := rfl
@[simp] theorem State.dropWord_memMap (s : State) : (s.dropWord).memMap = s.memMap := rfl
@[simp] theorem State.dropWord_regs (s : State) : (s.dropWord).regs = s.regs := rfl
@[simp] theorem State.dropWord_pc (s : State) : (s.dropWord).pc = s.pc := rfl
@[simp] theorem State.dropWord_flags (s : State) : (s.dropWord).flags = s.flags := rfl
@[simp] theorem State.dropWord_inte (s : State) : (s.dropWord).inte = s.inte := rfl
@[simp] theorem State.dropWord_eiPending (s : State) : (s.dropWord).eiPending = s.eiPending := rfl
@[simp] theorem State.dropWord_halted (s : State) : (s.dropWord).halted = s.halted := rfl
@[simp] theorem State.dropWord_serial (s : State) : (s.dropWord).serial = s.serial := rfl
@[simp] theorem State.dropWord_fault (s : State) : (s.dropWord).fault = s.fault := rfl
@[simp] theorem State.dropWord_mem (s : State) : (s.dropWord).mem = s.mem := rfl
@[simp] theorem State.dropWord_pins (s : State) : (s.dropWord).pins = s.pins := rfl
@[simp] theorem State.dropWord_schedule (s : State) : (s.dropWord).schedule = s.schedule := rfl
@[simp] theorem State.dropWord_portIn (s : State) : (s.dropWord).portIn = s.portIn := rfl
@[simp] theorem State.dropWord_trace (s : State) : (s.dropWord).trace = s.trace := rfl
@[simp] theorem State.dropWord_tick (s : State) : (s.dropWord).tick = s.tick := rfl
@[simp] theorem State.dropWord_sp (s : State) : s.dropWord.sp = s.sp + 1 + 1 := rfl

/-! ### record -/

@[simp] theorem State.record_variant (s : State) (e : IoEvent) : (s.record e).variant = s.variant := rfl
@[simp] theorem State.record_memMap (s : State) (e : IoEvent) : (s.record e).memMap = s.memMap := rfl
@[simp] theorem State.record_regs (s : State) (e : IoEvent) : (s.record e).regs = s.regs := rfl
@[simp] theorem State.record_sp (s : State) (e : IoEvent) : (s.record e).sp = s.sp := rfl
@[simp] theorem State.record_pc (s : State) (e : IoEvent) : (s.record e).pc = s.pc := rfl
@[simp] theorem State.record_flags (s : State) (e : IoEvent) : (s.record e).flags = s.flags := rfl
@[simp] theorem State.record_inte (s : State) (e : IoEvent) : (s.record e).inte = s.inte := rfl
@[simp] theorem State.record_eiPending (s : State) (e : IoEvent) : (s.record e).eiPending = s.eiPending := rfl
@[simp] theorem State.record_halted (s : State) (e : IoEvent) : (s.record e).halted = s.halted := rfl
@[simp] theorem State.record_serial (s : State) (e : IoEvent) : (s.record e).serial = s.serial := rfl
@[simp] theorem State.record_fault (s : State) (e : IoEvent) : (s.record e).fault = s.fault := rfl
@[simp] theorem State.record_mem (s : State) (e : IoEvent) : (s.record e).mem = s.mem := rfl
@[simp] theorem State.record_pins (s : State) (e : IoEvent) : (s.record e).pins = s.pins := rfl
@[simp] theorem State.record_schedule (s : State) (e : IoEvent) : (s.record e).schedule = s.schedule := rfl
@[simp] theorem State.record_portIn (s : State) (e : IoEvent) : (s.record e).portIn = s.portIn := rfl
@[simp] theorem State.record_tick (s : State) (e : IoEvent) : (s.record e).tick = s.tick := rfl
@[simp] theorem State.record_trace (s : State) (e : IoEvent) : (s.record e).trace = s.trace ++ [e] := rfl

/-! ### takePortAnswer -/

@[simp] theorem State.takePortAnswer_variant (s : State) (port : Byte) : (s.takePortAnswer port).variant = s.variant := rfl
@[simp] theorem State.takePortAnswer_memMap (s : State) (port : Byte) : (s.takePortAnswer port).memMap = s.memMap := rfl
@[simp] theorem State.takePortAnswer_regs (s : State) (port : Byte) : (s.takePortAnswer port).regs = s.regs := rfl
@[simp] theorem State.takePortAnswer_sp (s : State) (port : Byte) : (s.takePortAnswer port).sp = s.sp := rfl
@[simp] theorem State.takePortAnswer_pc (s : State) (port : Byte) : (s.takePortAnswer port).pc = s.pc := rfl
@[simp] theorem State.takePortAnswer_flags (s : State) (port : Byte) : (s.takePortAnswer port).flags = s.flags := rfl
@[simp] theorem State.takePortAnswer_inte (s : State) (port : Byte) : (s.takePortAnswer port).inte = s.inte := rfl
@[simp] theorem State.takePortAnswer_eiPending (s : State) (port : Byte) : (s.takePortAnswer port).eiPending = s.eiPending := rfl
@[simp] theorem State.takePortAnswer_halted (s : State) (port : Byte) : (s.takePortAnswer port).halted = s.halted := rfl
@[simp] theorem State.takePortAnswer_serial (s : State) (port : Byte) : (s.takePortAnswer port).serial = s.serial := rfl
@[simp] theorem State.takePortAnswer_fault (s : State) (port : Byte) : (s.takePortAnswer port).fault = s.fault := rfl
@[simp] theorem State.takePortAnswer_mem (s : State) (port : Byte) : (s.takePortAnswer port).mem = s.mem := rfl
@[simp] theorem State.takePortAnswer_pins (s : State) (port : Byte) : (s.takePortAnswer port).pins = s.pins := rfl
@[simp] theorem State.takePortAnswer_schedule (s : State) (port : Byte) : (s.takePortAnswer port).schedule = s.schedule := rfl
@[simp] theorem State.takePortAnswer_tick (s : State) (port : Byte) : (s.takePortAnswer port).tick = s.tick := rfl
@[simp] theorem State.takePortAnswer_portIn (s : State) (port : Byte) : (s.takePortAnswer port).portIn = s.portIn.tail := rfl
@[simp] theorem State.takePortAnswer_trace (s : State) (port : Byte) : (s.takePortAnswer port).trace = s.trace ++ [.portIn port (s.portAnswer port)] := rfl

/-! ### setCarry -/

@[simp] theorem State.setCarry_variant (s : State) (cy : Bool) : (s.setCarry cy).variant = s.variant := rfl
@[simp] theorem State.setCarry_memMap (s : State) (cy : Bool) : (s.setCarry cy).memMap = s.memMap := rfl
@[simp] theorem State.setCarry_regs (s : State) (cy : Bool) : (s.setCarry cy).regs = s.regs := rfl
@[simp] theorem State.setCarry_sp (s : State) (cy : Bool) : (s.setCarry cy).sp = s.sp := rfl
@[simp] theorem State.setCarry_pc (s : State) (cy : Bool) : (s.setCarry cy).pc = s.pc := rfl
@[simp] theorem State.setCarry_inte (s : State) (cy : Bool) : (s.setCarry cy).inte = s.inte := rfl
@[simp] theorem State.setCarry_eiPending (s : State) (cy : Bool) : (s.setCarry cy).eiPending = s.eiPending := rfl
@[simp] theorem State.setCarry_halted (s : State) (cy : Bool) : (s.setCarry cy).halted = s.halted := rfl
@[simp] theorem State.setCarry_serial (s : State) (cy : Bool) : (s.setCarry cy).serial = s.serial := rfl
@[simp] theorem State.setCarry_fault (s : State) (cy : Bool) : (s.setCarry cy).fault = s.fault := rfl
@[simp] theorem State.setCarry_mem (s : State) (cy : Bool) : (s.setCarry cy).mem = s.mem := rfl
@[simp] theorem State.setCarry_pins (s : State) (cy : Bool) : (s.setCarry cy).pins = s.pins := rfl
@[simp] theorem State.setCarry_schedule (s : State) (cy : Bool) : (s.setCarry cy).schedule = s.schedule := rfl
@[simp] theorem State.setCarry_portIn (s : State) (cy : Bool) : (s.setCarry cy).portIn = s.portIn := rfl
@[simp] theorem State.setCarry_trace (s : State) (cy : Bool) : (s.setCarry cy).trace = s.trace := rfl
@[simp] theorem State.setCarry_tick (s : State) (cy : Bool) : (s.setCarry cy).tick = s.tick := rfl
@[simp] theorem State.setCarry_flags (s : State) (cy : Bool) : (s.setCarry cy).flags = { s.flags with cy := cy } := rfl

/-! ### jumpTo -/

@[simp] theorem State.jumpTo_variant (s : State) (target : Word) : (s.jumpTo target).variant = s.variant := rfl
@[simp] theorem State.jumpTo_memMap (s : State) (target : Word) : (s.jumpTo target).memMap = s.memMap := rfl
@[simp] theorem State.jumpTo_regs (s : State) (target : Word) : (s.jumpTo target).regs = s.regs := rfl
@[simp] theorem State.jumpTo_sp (s : State) (target : Word) : (s.jumpTo target).sp = s.sp := rfl
@[simp] theorem State.jumpTo_flags (s : State) (target : Word) : (s.jumpTo target).flags = s.flags := rfl
@[simp] theorem State.jumpTo_inte (s : State) (target : Word) : (s.jumpTo target).inte = s.inte := rfl
@[simp] theorem State.jumpTo_eiPending (s : State) (target : Word) : (s.jumpTo target).eiPending = s.eiPending := rfl
@[simp] theorem State.jumpTo_halted (s : State) (target : Word) : (s.jumpTo target).halted = s.halted := rfl
@[simp] theorem State.jumpTo_serial (s : State) (target : Word) : (s.jumpTo target).serial = s.serial := rfl
@[simp] theorem State.jumpTo_fault (s : State) (target : Word) : (s.jumpTo target).fault = s.fault := rfl
@[simp] theorem State.jumpTo_mem (s : State) (target : Word) : (s.jumpTo target).mem = s.mem := rfl
@[simp] theorem State.jumpTo_pins (s : State) (target : Word) : (s.jumpTo target).pins = s.pins := rfl
@[simp] theorem State.jumpTo_schedule (s : State) (target : Word) : (s.jumpTo target).schedule = s.schedule := rfl
@[simp] theorem State.jumpTo_portIn (s : State) (target : Word) : (s.jumpTo target).portIn = s.portIn := rfl
@[simp] theorem State.jumpTo_trace (s : State) (target : Word) : (s.jumpTo target).trace = s.trace := rfl
@[simp] theorem State.jumpTo_tick (s : State) (target : Word) : (s.jumpTo target).tick = s.tick := rfl
@[simp] theorem State.jumpTo_pc (s : State) (target : Word) : (s.jumpTo target).pc = target := rfl

/-! ### callTo -/

@[simp] theorem State.callTo_variant (s : State) (target : Word) : (s.callTo target).variant = s.variant := rfl
@[simp] theorem State.callTo_memMap (s : State) (target : Word) : (s.callTo target).memMap = s.memMap := rfl
@[simp] theorem State.callTo_regs (s : State) (target : Word) : (s.callTo target).regs = s.regs := rfl
@[simp] theorem State.callTo_flags (s : State) (target : Word) : (s.callTo target).flags = s.flags := rfl
@[simp] theorem State.callTo_inte (s : State) (target : Word) : (s.callTo target).inte = s.inte := rfl
@[simp] theorem State.callTo_eiPending (s : State) (target : Word) : (s.callTo target).eiPending = s.eiPending := rfl
@[simp] theorem State.callTo_halted (s : State) (target : Word) : (s.callTo target).halted = s.halted := rfl
@[simp] theorem State.callTo_serial (s : State) (target : Word) : (s.callTo target).serial = s.serial := rfl
@[simp] theorem State.callTo_fault (s : State) (target : Word) : (s.callTo target).fault = s.fault := rfl
@[simp] theorem State.callTo_pins (s : State) (target : Word) : (s.callTo target).pins = s.pins := rfl
@[simp] theorem State.callTo_schedule (s : State) (target : Word) : (s.callTo target).schedule = s.schedule := rfl
@[simp] theorem State.callTo_portIn (s : State) (target : Word) : (s.callTo target).portIn = s.portIn := rfl
@[simp] theorem State.callTo_trace (s : State) (target : Word) : (s.callTo target).trace = s.trace := rfl
@[simp] theorem State.callTo_tick (s : State) (target : Word) : (s.callTo target).tick = s.tick := rfl
@[simp] theorem State.callTo_pc (s : State) (target : Word) : (s.callTo target).pc = target := rfl

@[simp] theorem State.callTo_sp (s : State) (target : Word) : (s.callTo target).sp = s.sp - 1 - 1 := rfl

/-! ### returnFromCall -/

@[simp] theorem State.returnFromCall_variant (s : State) : (s.returnFromCall).variant = s.variant := rfl
@[simp] theorem State.returnFromCall_memMap (s : State) : (s.returnFromCall).memMap = s.memMap := rfl
@[simp] theorem State.returnFromCall_regs (s : State) : (s.returnFromCall).regs = s.regs := rfl
@[simp] theorem State.returnFromCall_flags (s : State) : (s.returnFromCall).flags = s.flags := rfl
@[simp] theorem State.returnFromCall_inte (s : State) : (s.returnFromCall).inte = s.inte := rfl
@[simp] theorem State.returnFromCall_eiPending (s : State) : (s.returnFromCall).eiPending = s.eiPending := rfl
@[simp] theorem State.returnFromCall_halted (s : State) : (s.returnFromCall).halted = s.halted := rfl
@[simp] theorem State.returnFromCall_serial (s : State) : (s.returnFromCall).serial = s.serial := rfl
@[simp] theorem State.returnFromCall_fault (s : State) : (s.returnFromCall).fault = s.fault := rfl
@[simp] theorem State.returnFromCall_mem (s : State) : (s.returnFromCall).mem = s.mem := rfl
@[simp] theorem State.returnFromCall_pins (s : State) : (s.returnFromCall).pins = s.pins := rfl
@[simp] theorem State.returnFromCall_schedule (s : State) : (s.returnFromCall).schedule = s.schedule := rfl
@[simp] theorem State.returnFromCall_portIn (s : State) : (s.returnFromCall).portIn = s.portIn := rfl
@[simp] theorem State.returnFromCall_trace (s : State) : (s.returnFromCall).trace = s.trace := rfl
@[simp] theorem State.returnFromCall_tick (s : State) : (s.returnFromCall).tick = s.tick := rfl
@[simp] theorem State.returnFromCall_pc (s : State) : s.returnFromCall.pc = s.topWord := rfl
@[simp] theorem State.returnFromCall_sp (s : State) : s.returnFromCall.sp = s.sp + 1 + 1 := rfl

/-! ### enterHandler -/

@[simp] theorem State.enterHandler_variant (s : State) (target : Word) : (s.enterHandler target).variant = s.variant := rfl
@[simp] theorem State.enterHandler_memMap (s : State) (target : Word) : (s.enterHandler target).memMap = s.memMap := rfl
@[simp] theorem State.enterHandler_regs (s : State) (target : Word) : (s.enterHandler target).regs = s.regs := rfl
@[simp] theorem State.enterHandler_flags (s : State) (target : Word) : (s.enterHandler target).flags = s.flags := rfl
@[simp] theorem State.enterHandler_serial (s : State) (target : Word) : (s.enterHandler target).serial = s.serial := rfl
@[simp] theorem State.enterHandler_fault (s : State) (target : Word) : (s.enterHandler target).fault = s.fault := rfl
@[simp] theorem State.enterHandler_pins (s : State) (target : Word) : (s.enterHandler target).pins = s.pins := rfl
@[simp] theorem State.enterHandler_schedule (s : State) (target : Word) : (s.enterHandler target).schedule = s.schedule := rfl
@[simp] theorem State.enterHandler_portIn (s : State) (target : Word) : (s.enterHandler target).portIn = s.portIn := rfl
@[simp] theorem State.enterHandler_trace (s : State) (target : Word) : (s.enterHandler target).trace = s.trace := rfl
@[simp] theorem State.enterHandler_tick (s : State) (target : Word) : (s.enterHandler target).tick = s.tick := rfl
@[simp] theorem State.enterHandler_pc (s : State) (target : Word) : (s.enterHandler target).pc = target := rfl

@[simp] theorem State.enterHandler_inte (s : State) (target : Word) : (s.enterHandler target).inte = false := rfl
@[simp] theorem State.enterHandler_eiPending (s : State) (target : Word) : (s.enterHandler target).eiPending = false := rfl
@[simp] theorem State.enterHandler_halted (s : State) (target : Word) : (s.enterHandler target).halted = false := rfl
@[simp] theorem State.enterHandler_sp (s : State) (target : Word) : (s.enterHandler target).sp = s.sp - 1 - 1 := rfl

/-! ### sample -/

@[simp] theorem State.sample_variant (s : State) : (s.sample).variant = s.variant := rfl
@[simp] theorem State.sample_memMap (s : State) : (s.sample).memMap = s.memMap := rfl
@[simp] theorem State.sample_regs (s : State) : (s.sample).regs = s.regs := rfl
@[simp] theorem State.sample_sp (s : State) : (s.sample).sp = s.sp := rfl
@[simp] theorem State.sample_pc (s : State) : (s.sample).pc = s.pc := rfl
@[simp] theorem State.sample_flags (s : State) : (s.sample).flags = s.flags := rfl
@[simp] theorem State.sample_inte (s : State) : (s.sample).inte = s.inte := rfl
@[simp] theorem State.sample_eiPending (s : State) : (s.sample).eiPending = s.eiPending := rfl
@[simp] theorem State.sample_halted (s : State) : (s.sample).halted = s.halted := rfl
@[simp] theorem State.sample_fault (s : State) : (s.sample).fault = s.fault := rfl
@[simp] theorem State.sample_mem (s : State) : (s.sample).mem = s.mem := rfl
@[simp] theorem State.sample_portIn (s : State) : (s.sample).portIn = s.portIn := rfl
@[simp] theorem State.sample_trace (s : State) : (s.sample).trace = s.trace := rfl
@[simp] theorem State.sample_tick (s : State) : s.sample.tick = s.tick + 1 := rfl
@[simp] theorem State.sample_pins (s : State) : s.sample.pins = s.schedule.headD Pins.quiet := rfl
@[simp] theorem State.sample_schedule (s : State) : s.sample.schedule = s.schedule.tail := rfl

/-! ### recordFault -/

@[simp] theorem State.recordFault_variant (s : State) (f : Fault) : (s.recordFault f).variant = s.variant := rfl
@[simp] theorem State.recordFault_memMap (s : State) (f : Fault) : (s.recordFault f).memMap = s.memMap := rfl
@[simp] theorem State.recordFault_regs (s : State) (f : Fault) : (s.recordFault f).regs = s.regs := rfl
@[simp] theorem State.recordFault_sp (s : State) (f : Fault) : (s.recordFault f).sp = s.sp := rfl
@[simp] theorem State.recordFault_pc (s : State) (f : Fault) : (s.recordFault f).pc = s.pc := rfl
@[simp] theorem State.recordFault_flags (s : State) (f : Fault) : (s.recordFault f).flags = s.flags := rfl
@[simp] theorem State.recordFault_inte (s : State) (f : Fault) : (s.recordFault f).inte = s.inte := rfl
@[simp] theorem State.recordFault_eiPending (s : State) (f : Fault) : (s.recordFault f).eiPending = s.eiPending := rfl
@[simp] theorem State.recordFault_halted (s : State) (f : Fault) : (s.recordFault f).halted = s.halted := rfl
@[simp] theorem State.recordFault_serial (s : State) (f : Fault) : (s.recordFault f).serial = s.serial := rfl
@[simp] theorem State.recordFault_mem (s : State) (f : Fault) : (s.recordFault f).mem = s.mem := rfl
@[simp] theorem State.recordFault_pins (s : State) (f : Fault) : (s.recordFault f).pins = s.pins := rfl
@[simp] theorem State.recordFault_schedule (s : State) (f : Fault) : (s.recordFault f).schedule = s.schedule := rfl
@[simp] theorem State.recordFault_portIn (s : State) (f : Fault) : (s.recordFault f).portIn = s.portIn := rfl
@[simp] theorem State.recordFault_trace (s : State) (f : Fault) : (s.recordFault f).trace = s.trace := rfl
@[simp] theorem State.recordFault_tick (s : State) (f : Fault) : (s.recordFault f).tick = s.tick := rfl
@[simp] theorem State.recordFault_fault (s : State) (f : Fault) : (s.recordFault f).fault = some f := rfl

/-! ### resetEvent -/

@[simp] theorem State.resetEvent_variant (s : State) : (s.resetEvent).variant = s.variant := rfl
@[simp] theorem State.resetEvent_memMap (s : State) : (s.resetEvent).memMap = s.memMap := rfl
@[simp] theorem State.resetEvent_regs (s : State) : (s.resetEvent).regs = s.regs := rfl
@[simp] theorem State.resetEvent_sp (s : State) : (s.resetEvent).sp = s.sp := rfl
@[simp] theorem State.resetEvent_flags (s : State) : (s.resetEvent).flags = s.flags := rfl
@[simp] theorem State.resetEvent_mem (s : State) : (s.resetEvent).mem = s.mem := rfl
@[simp] theorem State.resetEvent_pins (s : State) : (s.resetEvent).pins = s.pins := rfl
@[simp] theorem State.resetEvent_schedule (s : State) : (s.resetEvent).schedule = s.schedule := rfl
@[simp] theorem State.resetEvent_portIn (s : State) : (s.resetEvent).portIn = s.portIn := rfl
@[simp] theorem State.resetEvent_trace (s : State) : (s.resetEvent).trace = s.trace := rfl
@[simp] theorem State.resetEvent_tick (s : State) : (s.resetEvent).tick = s.tick := rfl
@[simp] theorem State.resetEvent_pc (s : State) : s.resetEvent.pc = 0 := rfl
@[simp] theorem State.resetEvent_inte (s : State) : s.resetEvent.inte = false := rfl
@[simp] theorem State.resetEvent_eiPending (s : State) : s.resetEvent.eiPending = false := rfl
@[simp] theorem State.resetEvent_halted (s : State) : s.resetEvent.halted = false := rfl
@[simp] theorem State.resetEvent_fault (s : State) : s.resetEvent.fault = none := rfl

/-! ### The registers -/

@[simp] theorem Regs.get_set_same (r : Regs) (x : Reg8) (v : Byte) : (r.set x v).get x = v := by cases x <;> rfl

theorem Regs.get_set_other (r : Regs) (x y : Reg8) (v : Byte) (h : y ≠ x) : (r.set x v).get y = r.get y := by
  cases x <;> cases y <;> first | rfl | exact absurd rfl h

end Sys2Proof.Machine
end

