-- ==== Sys2Proof/Laws/Memory.lean ====
section
/-!
SUPPORT. The laws of memory: a read after a write, and the canonical form that every operation keeps.
-/

namespace Sys2Proof.Machine

@[simp] theorem Memory.read_nil (a : Nat) : Memory.read [] a = unlistedByte := rfl

@[simp] theorem Memory.read_cons (b : Nat) (v : Byte) (m : Memory) (a : Nat) :
    Memory.read ((b, v) :: m) a = if b = a then v else Memory.read m a := rfl

theorem Memory.read_erase (m : Memory) (a b : Nat) :
    Memory.read (Memory.erase m a) b = if b = a then unlistedByte else Memory.read m b := by
  induction m with
  | nil => simp [Memory.erase]
  | cons cell m ih =>
    obtain ⟨c, w⟩ := cell
    unfold Memory.erase at ih ⊢
    by_cases hc : c = a
    · subst hc
      by_cases hb : b = c
      · simpa [hb] using ih
      · simp [hb, Ne.symm hb, ih]
    · by_cases hb : c = b
      · subst hb
        simp [hc]
      · simp [hc, hb, ih]

theorem Memory.read_insert (m : Memory) (a b : Nat) (v : Byte) (h : ∀ w, (a, w) ∉ m) :
    Memory.read (Memory.insert m a v) b = if b = a then v else Memory.read m b := by
  induction m with
  | nil =>
    rcases eq_or_ne b a with rfl | hb
    · simp [Memory.insert]
    · simp [Memory.insert, hb, hb.symm]
  | cons cell m ih =>
    obtain ⟨c, w⟩ := cell
    have hc : c ≠ a := fun e => h w (by simp [e])
    have ih := ih (fun w' hw => h w' (by simp [hw]))
    unfold Memory.insert
    split
    · rcases eq_or_ne b a with rfl | hb
      · simp
      · simp [hb, hb.symm]
    · by_cases hcb : c = b
      · subst hcb
        simp [hc]
      · simp [hcb, ih]

theorem Memory.not_mem_erase (m : Memory) (a : Nat) (w : Byte) : (a, w) ∉ Memory.erase m a := by
  simp [Memory.erase]

/-- What a write does to every read: the written cell gives the written byte, every other cell what it gave. -/
theorem Memory.read_write (m : Memory) (a b : Nat) (v : Byte) :
    Memory.read (Memory.write m a v) b = if b = a then v else Memory.read m b := by
  unfold Memory.write
  split
  · next h => rw [Memory.read_erase, h]
  · rw [Memory.read_insert _ _ _ _ (Memory.not_mem_erase m a), Memory.read_erase]
    split <;> rfl

/-! ### The canonical form -/

theorem Memory.wfFrom_cons (lo a : Nat) (v : Byte) (m : Memory) :
    Memory.wfFrom lo ((a, v) :: m) = true ↔ lo ≤ a ∧ a < 65536 ∧ v ≠ unlistedByte ∧ Memory.wfFrom (a + 1) m = true := by
  simp [Memory.wfFrom, and_assoc]

theorem Memory.wfFrom_mono {lo lo' : Nat} {m : Memory} (hl : lo' ≤ lo) (h : Memory.wfFrom lo m = true) :
    Memory.wfFrom lo' m = true := by
  cases m with
  | nil => rfl
  | cons cell m =>
    obtain ⟨a, v⟩ := cell
    rw [Memory.wfFrom_cons] at h ⊢
    exact ⟨hl.trans h.1, h.2⟩

theorem Memory.wfFrom_erase (m : Memory) (lo a : Nat) (h : Memory.wfFrom lo m = true) :
    Memory.wfFrom lo (Memory.erase m a) = true := by
  induction m generalizing lo with
  | nil => rfl
  | cons cell m ih =>
    obtain ⟨c, w⟩ := cell
    rw [Memory.wfFrom_cons] at h
    unfold Memory.erase at ih ⊢
    by_cases hc : c = a
    · simpa [hc] using Memory.wfFrom_mono (by omega) (ih _ h.2.2.2)
    · simpa [hc, Memory.wfFrom_cons] using ⟨h.1, h.2.1, h.2.2.1, ih _ h.2.2.2⟩

theorem Memory.wfFrom_insert (m : Memory) (lo a : Nat) (v : Byte) (hlo : lo ≤ a) (ha : a < 65536)
    (hv : v ≠ unlistedByte) (hm : ∀ w, (a, w) ∉ m) (h : Memory.wfFrom lo m = true) :
    Memory.wfFrom lo (Memory.insert m a v) = true := by
  induction m generalizing lo with
  | nil => simp [Memory.insert, Memory.wfFrom, hlo, ha, hv]
  | cons cell m ih =>
    obtain ⟨c, w⟩ := cell
    rw [Memory.wfFrom_cons] at h
    have hc : c ≠ a := fun e => hm w (by simp [e])
    unfold Memory.insert
    split
    · next hlt =>
      rw [Memory.wfFrom_cons, Memory.wfFrom_cons]
      exact ⟨hlo, ha, hv, by omega, h.2.1, h.2.2.1, h.2.2.2⟩
    · next hge =>
      rw [Memory.wfFrom_cons]
      exact ⟨h.1, h.2.1, h.2.2.1, ih _ (by omega) (fun w' hw => hm w' (by simp [hw])) h.2.2.2⟩

/-- Writing a byte keeps the canonical form. -/
theorem Memory.wf_write (m : Memory) (a : Nat) (v : Byte) (ha : a < 65536) (h : Memory.wf m = true) :
    Memory.wf (Memory.write m a v) = true := by
  unfold Memory.wf Memory.write at *
  split
  · exact Memory.wfFrom_erase m 0 a h
  · next hv =>
    exact Memory.wfFrom_insert _ 0 a v (Nat.zero_le a) ha hv (Memory.not_mem_erase m a)
      (Memory.wfFrom_erase m 0 a h)

/-- The reset state's memory is in canonical form. -/
theorem State.reset_mem_wf : Memory.wf State.reset.mem = true := rfl

/-! ### Bytes through the bus -/

/-- What stands at an address depends on the map alone. -/
@[simp] theorem State.cellKind_writeByte (s : State) (a b : Word) (v : Byte) :
    (s.writeByte a v).cellKind b = s.cellKind b := by simp [State.cellKind]

/-- A read depends on the map, the memory and the counter alone. -/
theorem State.busRead_congr {s t : State} (hmap : t.memMap = s.memMap) (hmem : t.mem = s.mem)
    (htick : t.tick = s.tick) (f : Bool) (a : Word) : t.busRead f a = s.busRead f a := by
  simp [State.busRead, State.cellKind, hmap, hmem, htick]

theorem State.readByte_congr {s t : State} (hmap : t.memMap = s.memMap) (hmem : t.mem = s.mem)
    (htick : t.tick = s.tick) (a : Word) : t.readByte a = s.readByte a :=
  State.busRead_congr hmap hmem htick false a

/-- What a store does to every read: a ram cell gives the stored byte, all else is as before. -/
theorem State.busRead_writeByte (s : State) (a b : Word) (v : Byte) (f : Bool) :
    (s.writeByte a v).busRead f b = if b = a ∧ s.cellKind a = .ram then v else s.busRead f b := by
  unfold State.busRead
  rw [State.cellKind_writeByte]
  unfold State.writeByte State.memAfterWrite
  by_cases hb : b = a
  · subst hb
    cases hk : s.cellKind b <;> simp [Memory.read_write]
  · have hn : b.toNat ≠ a.toNat := fun h => hb (BitVec.eq_of_toNat_eq h)
    cases hk : s.cellKind a <;> cases hk' : s.cellKind b <;> simp [hb, hn, Memory.read_write]

theorem State.readByte_writeByte (s : State) (a b : Word) (v : Byte) :
    (s.writeByte a v).readByte b = if b = a ∧ s.cellKind a = .ram then v else s.readByte b :=
  State.busRead_writeByte s a b v false

/-- A store keeps the canonical form. -/
theorem State.mem_wf_writeByte (s : State) (a : Word) (v : Byte) (h : Memory.wf s.mem = true) :
    Memory.wf (s.writeByte a v).mem = true := by
  unfold State.writeByte State.memAfterWrite
  split
  · exact Memory.wf_write _ _ _ a.isLt h
  · exact h
  · exact h

/-- Moving SP changes no byte. -/
theorem State.readByte_withSp (s : State) (w b : Word) : ({ s with sp := w } : State).readByte b = s.readByte b := rfl

/-- Moving SP changes no cell's kind. -/
theorem State.cellKind_withSp (s : State) (w b : Word) : ({ s with sp := w } : State).cellKind b = s.cellKind b := rfl

/-- A push is two stores below SP, the high byte at SP - 1 and the low byte at SP - 2. -/
theorem State.pushBytes_eq (s : State) (vh vl : Byte) :
    s.pushBytes vh vl =
      ({ ({ s with sp := s.sp - 1 } : State).writeByte (s.sp - 1) vh with sp := s.sp - 1 - 1 } : State).writeByte
        (s.sp - 1 - 1) vl := by
  rfl

/-- What a push does to every read. -/
theorem State.readByte_pushBytes (s : State) (vh vl : Byte) (b : Word) :
    (s.pushBytes vh vl).readByte b =
      if b = s.sp - 1 - 1 ∧ s.cellKind (s.sp - 1 - 1) = .ram then vl
      else if b = s.sp - 1 ∧ s.cellKind (s.sp - 1) = .ram then vh
      else s.readByte b := by
  rw [State.pushBytes_eq]
  generalize s.sp - 1 - 1 = x
  generalize s.sp - 1 = y
  rw [State.readByte_writeByte, State.readByte_withSp, State.readByte_writeByte, State.readByte_withSp,
    State.cellKind_withSp, State.cellKind_writeByte, State.cellKind_withSp]
  rfl

/-- A push keeps the canonical form. -/
theorem State.mem_wf_pushBytes (s : State) (vh vl : Byte) (h : Memory.wf s.mem = true) :
    Memory.wf (s.pushBytes vh vl).mem = true := by
  rw [State.pushBytes_eq]
  generalize s.sp - 1 - 1 = x
  generalize s.sp - 1 = y
  exact State.mem_wf_writeByte { ({ s with sp := y } : State).writeByte y vh with sp := x } x vl
    (State.mem_wf_writeByte { s with sp := y } y vh h)

/-- Placing bytes from outside keeps the canonical form. -/
theorem State.mem_wf_placeBytes (s : State) (a : Word) (bs : List Byte) (h : Memory.wf s.mem = true) :
    Memory.wf (s.placeBytes a bs).mem = true := by
  induction bs generalizing s a with
  | nil => exact h
  | cons v vs ih => exact ih _ _ (Memory.wf_write _ _ _ a.isLt h)

end Sys2Proof.Machine
end

