-- ==== Sys2Proof/Laws/Decode.lean ====
section
/-!
SUPPORT. What the decoder does with a list of bytes, format by format (30_encoding R72, R86).
-/

namespace Sys2Proof

/-- A 16-bit value is its two bytes. -/
theorem joinBytes_high_low (w : Word) : joinBytes (highByte w) (lowByte w) = w := by
  unfold joinBytes highByte lowByte
  apply BitVec.eq_of_getLsbD_eq
  intro i hi
  rw [BitVec.getLsbD_append]
  by_cases h : i < 8
  · simp [h]
  · have h2 : i - 8 < 8 := by omega
    have h3 : 8 + (i - 8) = i := by omega
    simp [h, h2, h3]

theorem highByte_joinBytes (hi lo : Byte) : highByte (joinBytes hi lo) = hi := by
  unfold joinBytes highByte
  apply BitVec.eq_of_getLsbD_eq
  intro i h
  have h3 : ¬8 + i < 8 := by omega
  rw [BitVec.getLsbD_extractLsb', BitVec.getLsbD_append]
  simp [h, h3]

theorem lowByte_joinBytes (hi lo : Byte) : lowByte (joinBytes hi lo) = lo := by
  unfold joinBytes lowByte
  apply BitVec.eq_of_getLsbD_eq
  intro i h
  rw [BitVec.getLsbD_extractLsb', BitVec.getLsbD_append]
  simp [h]

/-- The value of a 16-bit value from its two bytes. -/
theorem joinBytes_toNat (hi lo : Byte) : (joinBytes hi lo).toNat = 256 * hi.toNat + lo.toNat := by
  have h : (joinBytes hi lo).toNat = hi.toNat <<< 8 ||| lo.toNat := BitVec.toNat_append hi lo
  rw [h, ← Nat.shiftLeft_add_eq_or_of_lt lo.isLt, Nat.shiftLeft_eq]
  omega

theorem decode_i1 {op : Byte} {i : Instr} (h : opcodeEntry op = .i1 i) (rest : List Byte) :
    decode (op :: rest) = .ok (i, rest) := by
  simp [decode, decodeAt, h, Entry.length, Entry.build]

theorem decode_i2 {op : Byte} {f : Byte → Instr} (h : opcodeEntry op = .i2 f) (b2 : Byte) (rest : List Byte) :
    decode (op :: b2 :: rest) = .ok (f b2, rest) := by
  simp [decode, decodeAt, h, Entry.length, Entry.build]

theorem decode_p2 {op : Byte} {f : Byte → Instr} (h : opcodeEntry op = .p2 f) (b2 : Byte) (rest : List Byte) :
    decode (op :: b2 :: rest) = .ok (f b2, rest) := by
  simp [decode, decodeAt, h, Entry.length, Entry.build]

theorem decode_a3 {op : Byte} {f : Word → Instr} (h : opcodeEntry op = .a3 f) (b2 b3 : Byte) (rest : List Byte) :
    decode (op :: b2 :: b3 :: rest) = .ok (f (joinBytes b3 b2), rest) := by
  simp [decode, decodeAt, h, Entry.length, Entry.build]

theorem decode_none {op : Byte} (h : opcodeEntry op = .none) (rest : List Byte) :
    decode (op :: rest) = .ok (.undefined op, rest) := by
  simp [decode, decodeAt, h, Entry.length, Entry.build]

/-- What a decoded list of bytes was, by the format of its first byte. -/
theorem decode_cases {bs rest : List Byte} {i : Instr} (h : decode bs = .ok (i, rest)) :
    ∃ op, (∃ j, opcodeEntry op = .i1 j ∧ i = j ∧ bs = op :: rest) ∨
      (∃ f b2, (opcodeEntry op = .i2 f ∨ opcodeEntry op = .p2 f) ∧ i = f b2 ∧ bs = op :: b2 :: rest) ∨
      (∃ f b2 b3, opcodeEntry op = .a3 f ∧ i = f (joinBytes b3 b2) ∧ bs = op :: b2 :: b3 :: rest) ∨
      (opcodeEntry op = .none ∧ i = .undefined op ∧ bs = op :: rest) := by
  cases bs with
  | nil => simp [decode] at h
  | cons op tl =>
    refine ⟨op, ?_⟩
    cases he : opcodeEntry op with
    | none =>
      rw [decode_none he] at h
      simp only [Except.ok.injEq, Prod.mk.injEq] at h
      exact .inr (.inr (.inr ⟨rfl, h.1.symm, by rw [h.2]⟩))
    | i1 j =>
      rw [decode_i1 he] at h
      simp only [Except.ok.injEq, Prod.mk.injEq] at h
      exact .inl ⟨j, rfl, h.1.symm, by rw [h.2]⟩
    | i2 f =>
      cases tl with
      | nil => simp [decode, he, Entry.length] at h
      | cons b2 tl =>
        rw [decode_i2 he] at h
        simp only [Except.ok.injEq, Prod.mk.injEq] at h
        exact .inr (.inl ⟨f, b2, .inl rfl, h.1.symm, by rw [h.2]⟩)
    | p2 f =>
      cases tl with
      | nil => simp [decode, he, Entry.length] at h
      | cons b2 tl =>
        rw [decode_p2 he] at h
        simp only [Except.ok.injEq, Prod.mk.injEq] at h
        exact .inr (.inl ⟨f, b2, .inr rfl, h.1.symm, by rw [h.2]⟩)
    | a3 f =>
      cases tl with
      | nil => simp [decode, he, Entry.length] at h
      | cons b2 tl =>
        cases tl with
        | nil => simp [decode, he, Entry.length] at h
        | cons b3 tl =>
          rw [decode_a3 he] at h
          simp only [Except.ok.injEq, Prod.mk.injEq] at h
          exact .inr (.inr (.inl ⟨f, b2, b3, rfl, h.1.symm, by rw [h.2]⟩))

end Sys2Proof
end

