-- ==== Sys2Proof/Laws/Ops.lean ====
section
/-!
SUPPORT. For each shared operation one lemma that says once everything it can do; the proofs of the statements cite
these instead of unfolding.
-/

namespace Sys2Proof.Machine

/-! ### The frame of an instruction -/

/-- An instruction frame always answers a next state. -/
theorem runInstr_eq (cls : InstrClass) (len : Word) (op : State → State) (s : State) :
    runInstr cls len op s = .next ((op (s.advance len)).complete cls s.eiPending) := rfl

theorem ordinary_eq (len : Word) (op : State → State) (s : State) :
    ordinary len op s = .next ((op (s.advance len)).complete .ordinary s.eiPending) := rfl

/-- The completion step of an ordinary instruction: an EI right before it takes effect (R235). -/
theorem State.complete_ordinary (s : State) (eip0 : Bool) :
    s.complete .ordinary eip0 =
      { s with inte := s.inte || eip0, eiPending := if eip0 then false else s.eiPending } := by
  cases eip0 <;> simp [State.complete]

/-- The completion step of EI (R235, R236). -/
theorem State.complete_ei (s : State) (eip0 : Bool) :
    s.complete .ei eip0 = { s with inte := s.inte || eip0, eiPending := true } := by
  cases eip0 <;> simp [State.complete]

/-- The completion step of DI (R235, R237). -/
theorem State.complete_di (s : State) (eip0 : Bool) :
    s.complete .di eip0 = { s with eiPending := if eip0 then false else s.eiPending } := by
  cases eip0 <;> simp [State.complete]

/-- An ordinary instruction whose operation leaves INTE and `ei_pending` alone ends as `retired` says. -/
theorem ordinary_retired (len : Word) (op : State → State) (s : State)
    (hi : (op (s.advance len)).inte = s.inte) (he : (op (s.advance len)).eiPending = s.eiPending) :
    ordinary len op s =
      .next { op (s.advance len) with inte := s.inte || s.eiPending, eiPending := false } := by
  rw [ordinary_eq, State.complete_ordinary, hi, he]
  cases s.eiPending <;> rfl

/-- An instruction of the 8085A alone: its run there, the fault on the 8080. -/
theorem only85_cases (op : Byte) (run : State → Result) (s : State) :
    (s.variant = .i8085A ∧ only85 op run s = run s) ∨
    (s.variant = .i8080 ∧ only85 op run s = .fault (.undefinedOpcode op s.pc)) := by
  unfold only85
  cases s.variant
  · exact .inr ⟨rfl, rfl⟩
  · exact .inl ⟨rfl, rfl⟩

/-! ### Stores and the stack -/

/-- One store, said as the statements say it. -/
theorem State.storedByte_writeByte (s : State) (a : Word) (v : Byte) : s.storedByte (s.writeByte a v) s a v :=
  ⟨rfl, fun b => State.readByte_writeByte s a b v⟩

/-- A store says nothing of the fields it does not touch. -/
theorem State.storedByte_congr {s t t' u u' : State} {a : Word} {v : Byte} (h : s.storedByte t u a v)
    (hm : t'.memMap = t.memMap) (hmem : t'.mem = t.mem) (ht : t'.tick = t.tick)
    (hu : { t' with mem := s.mem } = u') : s.storedByte t' u' a v :=
  ⟨hu, fun b => (State.readByte_congr hm hmem ht b).trans (h.2 b)⟩

/-- Two stores at following addresses, the low byte first. -/
theorem State.readByte_twoStores (s : State) (a : Word) (lo hi : Byte) (b : Word) :
    ((s.writeByte a lo).writeByte (a + 1) hi).readByte b =
      if b = a ∧ s.cellKind a = .ram then lo
      else if b = a + 1 ∧ s.cellKind (a + 1) = .ram then hi
      else s.readByte b := by
  have hne : a + 1 ≠ a := by bv_omega
  rw [State.readByte_writeByte, State.readByte_writeByte, State.cellKind_writeByte]
  by_cases h1 : b = a
  · subst h1
    simp
  · simp [h1]

/-- The address two below is followed by the one below. -/
theorem sub_two_eq (w : Word) : w - 1 - 1 = w - 2 := by bv_omega

theorem sub_two_add_one (w : Word) : w - 2 + 1 = w - 1 := by bv_omega

/-- Everything a push does. -/
theorem State.pushBytes_spec (s : State) (vh vl : Byte) :
    s.storedWord (s.pushBytes vh vl) { s with sp := s.sp - 2 } (s.sp - 2) vl vh := by
  constructor
  · rw [State.pushBytes_eq, sub_two_eq]
    rfl
  · intro b
    rw [State.readByte_pushBytes, sub_two_eq, sub_two_add_one]

/-- What lies where after a push, when the two cells are ram: the word is on top of the stack. -/
theorem State.topWord_push16 (s : State) (v : Word) (h1 : s.cellKind (s.sp - 1) = .ram)
    (h2 : s.cellKind (s.sp - 2) = .ram) : (s.push16 v).topWord = v := by
  have hp := (State.pushBytes_spec s (highByte v) (lowByte v)).2
  have hsp : (s.push16 v).sp = s.sp - 2 := by
    rw [State.push16, State.pushBytes_eq, sub_two_eq]
    rfl
  have hne : s.sp - 1 ≠ s.sp - 2 := by bv_omega
  unfold State.topWord State.readWord State.push16 at *
  rw [hsp, hp, hp, sub_two_add_one]
  rw [if_neg (fun h => hne h.1), if_pos ⟨rfl, h1⟩, if_pos ⟨rfl, h2⟩]
  exact joinBytes_high_low v

/-- Everything the entry to a handler does. -/
theorem State.enterHandler_spec (s : State) (target : Word) :
    s.storedWord (s.enterHandler target)
      { s with inte := false, eiPending := false, halted := false, sp := s.sp - 2, pc := target }
      (s.sp - 2) (lowByte s.pc) (highByte s.pc) := by
  have h := State.pushBytes_spec { s with inte := false, eiPending := false, halted := false }
    (highByte s.pc) (lowByte s.pc)
  constructor
  · have h1 := congrArg (fun u : State => { u with pc := target }) h.1
    exact h1
  · intro b
    exact (State.readByte_congr rfl rfl rfl b).trans (h.2 b)

/-! ### Requests -/

/-- Sampling changes the input levels, the environment's list, the latch I7.5 and the counter. -/
theorem State.sample_eq (s : State) :
    s.sample =
      { s with
        pins := s.schedule.headD Pins.quiet
        schedule := s.schedule.tail
        serial := s.sample.serial
        tick := s.tick + 1 } := rfl

/-- Sampling sets the latch I7.5 of an 8085A on an edge, and never clears it (R256). -/
theorem State.sample_serial (s : State) :
    s.sample.serial =
      match s.variant with
      | .i8080 => s.serial
      | .i8085A => { s.serial with i75 := s.serial.i75 || (s.schedule.headD Pins.quiet).rst75 } := by
  unfold State.sample
  cases s.variant <;> rfl

/-- Which request is chosen, and why (R257, R260). -/
theorem State.select_cases (s : State) :
    (s.select = none) ∨
    (∃ bs, s.select = some (.intr bs) ∧ s.enabled = true ∧ s.pins.intr = some bs) ∨
    (s.variant = .i8085A ∧ s.select = some .trap ∧ s.pins.trap = true) ∨
    (s.variant = .i8085A ∧ s.select = some .rst75 ∧ s.enabled = true ∧ s.serial.m75 = false ∧ s.serial.i75 = true) ∨
    (s.variant = .i8085A ∧ s.select = some .rst65 ∧ s.enabled = true ∧ s.serial.m65 = false ∧ s.pins.rst65 = true) ∨
    (s.variant = .i8085A ∧ s.select = some .rst55 ∧ s.enabled = true ∧ s.serial.m55 = false ∧ s.pins.rst55 = true) := by
  have hsup : s.suppliedRequest = none ∨
      ∃ bs, s.suppliedRequest = some (.intr bs) ∧ s.enabled = true ∧ s.pins.intr = some bs := by
    unfold State.suppliedRequest
    split
    · next he =>
      cases hp : s.pins.intr with
      | none => exact .inl rfl
      | some bs => exact .inr ⟨bs, rfl, he, rfl⟩
    · exact .inl rfl
  unfold State.select
  cases hv : s.variant with
  | i8080 => exact hsup.imp_right .inl
  | i8085A =>
    dsimp only
    split
    · next h => exact .inr (.inr (.inl ⟨rfl, rfl, h⟩))
    · split
      · next h =>
        simp only [Bool.and_eq_true, Bool.not_eq_true'] at h
        exact .inr (.inr (.inr (.inl ⟨rfl, rfl, h.1.1, h.1.2, h.2⟩)))
      · split
        · next h =>
          simp only [Bool.and_eq_true, Bool.not_eq_true'] at h
          exact .inr (.inr (.inr (.inr (.inl ⟨rfl, rfl, h.1.1, h.1.2, h.2⟩))))
        · split
          · next h =>
            simp only [Bool.and_eq_true, Bool.not_eq_true'] at h
            exact .inr (.inr (.inr (.inr (.inr ⟨rfl, rfl, h.1.1, h.1.2, h.2⟩))))
          · exact hsup.imp_right .inl

/-- Everything an acceptance can do: it enters a handler, from the state itself or (RST 7.5) from the state with the
latch cleared, or it faults on a supplied instruction. -/
theorem State.accept_cases (s : State) (req : Request) :
    (∃ target, s.accept req = .next (s.enterHandler target)) ∨
    (req = .rst75 ∧
      s.accept req = .next (({ s with serial := { s.serial with i75 := false } } : State).enterHandler 0x003C#16)) ∨
    (∃ bs, req = .intr bs ∧ suppliedTarget bs = none ∧ s.accept req = .fault (.intInstrRefused bs)) := by
  cases req with
  | trap => exact .inl ⟨_, rfl⟩
  | rst75 => exact .inr (.inl ⟨rfl, rfl⟩)
  | rst65 => exact .inl ⟨_, rfl⟩
  | rst55 => exact .inl ⟨_, rfl⟩
  | intr bs =>
    cases h : suppliedTarget bs with
    | none => exact .inr (.inr ⟨bs, rfl, h, by simp [State.accept, h]⟩)
    | some target => exact .inl ⟨target, by simp [State.accept, h]⟩

/-- What a device may supply, and where it leads (R258, R265). -/
theorem suppliedTarget_cases (bs : List Byte) :
    (∃ op, bs = [op] ∧ op &&& 0xC7#8 = 0xC7#8 ∧ suppliedTarget bs = some ((op &&& 0x38#8).setWidth 16)) ∨
    (∃ lo hi, bs = [0xCD#8, lo, hi] ∧ suppliedTarget bs = some (joinBytes hi lo)) ∨
    suppliedTarget bs = none := by
  match bs with
  | [] => exact .inr (.inr rfl)
  | [op] =>
    by_cases h : op &&& 0xC7#8 = 0xC7#8
    · exact .inl ⟨op, rfl, h, if_pos h⟩
    · exact .inr (.inr (if_neg h))
  | [_, _] => exact .inr (.inr rfl)
  | [op, lo, hi] =>
    by_cases h : op = 0xCD#8
    · exact .inr (.inl ⟨lo, hi, by rw [h], if_pos h⟩)
    · exact .inr (.inr (if_neg h))
  | _ :: _ :: _ :: _ :: _ => exact .inr (.inr rfl)

/-! ### One step -/

/-- Everything a step that answers a next state can have done (R254). -/
theorem step_cases {s t : State} (h : step s = .next t) :
    s.fault = none ∧
    ((∃ req, s.sample.select = some req ∧ s.sample.accept req = .next t) ∨
     (s.sample.select = none ∧ s.halted = true ∧ t = s.sample) ∨
     (s.sample.select = none ∧ s.halted = false ∧ exec s.sample.fetchInstr s.sample = .next t)) := by
  unfold step at h
  cases hf : s.fault with
  | some f => simp [hf] at h
  | none =>
    refine ⟨rfl, ?_⟩
    cases hs : s.sample.select with
    | some req => exact .inl ⟨req, rfl, by simpa [hf, hs] using h⟩
    | none =>
      simp only [hf, hs] at h
      split at h
      · next hh => exact .inr (.inl ⟨rfl, hh, (Host.Outcome.next.inj h).symm⟩)
      · next hh => exact .inr (.inr ⟨rfl, by simpa using hh, h⟩)

/-- A step with no recorded fault, nothing to accept and no halt runs the instruction it fetches. -/
theorem step_exec {s : State} (hf : s.fault = none) (hn : s.nothingAcceptable = true) (hh : s.halted = false) :
    step s = exec s.sample.fetchInstr s.sample := by
  have hs : s.sample.select = none := by simpa [State.nothingAcceptable] using hn
  unfold step
  simp [hf, hs, hh]

/-- A halted processor with nothing to accept waits. -/
theorem step_halted {s : State} (hf : s.fault = none) (hn : s.nothingAcceptable = true) (hh : s.halted = true) :
    step s = .next s.sample := by
  have hs : s.sample.select = none := by simpa [State.nothingAcceptable] using hn
  unfold step
  simp [hf, hs, hh]

/-- A step accepts the request that was chosen. -/
theorem step_accept {s : State} {req : Request} (hf : s.fault = none) (hs : s.sample.select = some req) :
    step s = s.sample.accept req := by
  unfold step
  simp [hf, hs]

end Sys2Proof.Machine
end

