-- ==== Sys2Proof/Laws/Families.lean ====
section
/-!
SUPPORT. For the operations of the instruction families, what every field of the state is after each.
-/

namespace Sys2Proof.Machine

/-- The accumulator operation of the group of R77 on a second operand. -/
def State.accOp (s : State) (o : AluOp) (v : Byte) : State :=
  match o with
  | .add => s.accAdd v false
  | .adc => s.accAdd v s.flags.cy
  | .sub => s.accSub v false
  | .sbb => s.accSub v s.flags.cy
  | .ana => s.accAnd v
  | .xra => s.accXor v
  | .ora => s.accOr v
  | .cmp => s.accCompare v

/-! ### storeHL -/

@[simp] theorem State.storeHL_variant (s : State) (a : Word) : (s.storeHL a).variant = s.variant := rfl
@[simp] theorem State.storeHL_memMap (s : State) (a : Word) : (s.storeHL a).memMap = s.memMap := rfl
@[simp] theorem State.storeHL_regs (s : State) (a : Word) : (s.storeHL a).regs = s.regs := rfl
@[simp] theorem State.storeHL_sp (s : State) (a : Word) : (s.storeHL a).sp = s.sp := rfl
@[simp] theorem State.storeHL_pc (s : State) (a : Word) : (s.storeHL a).pc = s.pc := rfl
@[simp] theorem State.storeHL_flags (s : State) (a : Word) : (s.storeHL a).flags = s.flags := rfl
@[simp] theorem State.storeHL_inte (s : State) (a : Word) : (s.storeHL a).inte = s.inte := rfl
@[simp] theorem State.storeHL_eiPending (s : State) (a : Word) : (s.storeHL a).eiPending = s.eiPending := rfl
@[simp] theorem State.storeHL_halted (s : State) (a : Word) : (s.storeHL a).halted = s.halted := rfl
@[simp] theorem State.storeHL_serial (s : State) (a : Word) : (s.storeHL a).serial = s.serial := rfl
@[simp] theorem State.storeHL_fault (s : State) (a : Word) : (s.storeHL a).fault = s.fault := rfl
@[simp] theorem State.storeHL_pins (s : State) (a : Word) : (s.storeHL a).pins = s.pins := rfl
@[simp] theorem State.storeHL_schedule (s : State) (a : Word) : (s.storeHL a).schedule = s.schedule := rfl
@[simp] theorem State.storeHL_portIn (s : State) (a : Word) : (s.storeHL a).portIn = s.portIn := rfl
@[simp] theorem State.storeHL_trace (s : State) (a : Word) : (s.storeHL a).trace = s.trace := rfl
@[simp] theorem State.storeHL_tick (s : State) (a : Word) : (s.storeHL a).tick = s.tick := rfl

/-! ### exchangeDEHL -/

@[simp] theorem State.exchangeDEHL_variant (s : State) : (s.exchangeDEHL).variant = s.variant := rfl
@[simp] theorem State.exchangeDEHL_memMap (s : State) : (s.exchangeDEHL).memMap = s.memMap := rfl
@[simp] theorem State.exchangeDEHL_sp (s : State) : (s.exchangeDEHL).sp = s.sp := rfl
@[simp] theorem State.exchangeDEHL_pc (s : State) : (s.exchangeDEHL).pc = s.pc := rfl
@[simp] theorem State.exchangeDEHL_flags (s : State) : (s.exchangeDEHL).flags = s.flags := rfl
@[simp] theorem State.exchangeDEHL_inte (s : State) : (s.exchangeDEHL).inte = s.inte := rfl
@[simp] theorem State.exchangeDEHL_eiPending (s : State) : (s.exchangeDEHL).eiPending = s.eiPending := rfl
@[simp] theorem State.exchangeDEHL_halted (s : State) : (s.exchangeDEHL).halted = s.halted := rfl
@[simp] theorem State.exchangeDEHL_serial (s : State) : (s.exchangeDEHL).serial = s.serial := rfl
@[simp] theorem State.exchangeDEHL_fault (s : State) : (s.exchangeDEHL).fault = s.fault := rfl
@[simp] theorem State.exchangeDEHL_mem (s : State) : (s.exchangeDEHL).mem = s.mem := rfl
@[simp] theorem State.exchangeDEHL_pins (s : State) : (s.exchangeDEHL).pins = s.pins := rfl
@[simp] theorem State.exchangeDEHL_schedule (s : State) : (s.exchangeDEHL).schedule = s.schedule := rfl
@[simp] theorem State.exchangeDEHL_portIn (s : State) : (s.exchangeDEHL).portIn = s.portIn := rfl
@[simp] theorem State.exchangeDEHL_trace (s : State) : (s.exchangeDEHL).trace = s.trace := rfl
@[simp] theorem State.exchangeDEHL_tick (s : State) : (s.exchangeDEHL).tick = s.tick := rfl

/-! ### accOp -/

@[simp] theorem State.accOp_variant (s : State) (o : AluOp) (v : Byte) : (s.accOp o v).variant = s.variant := by cases o <;> rfl
@[simp] theorem State.accOp_memMap (s : State) (o : AluOp) (v : Byte) : (s.accOp o v).memMap = s.memMap := by cases o <;> rfl
@[simp] theorem State.accOp_sp (s : State) (o : AluOp) (v : Byte) : (s.accOp o v).sp = s.sp := by cases o <;> rfl
@[simp] theorem State.accOp_pc (s : State) (o : AluOp) (v : Byte) : (s.accOp o v).pc = s.pc := by cases o <;> rfl
@[simp] theorem State.accOp_inte (s : State) (o : AluOp) (v : Byte) : (s.accOp o v).inte = s.inte := by cases o <;> rfl
@[simp] theorem State.accOp_eiPending (s : State) (o : AluOp) (v : Byte) : (s.accOp o v).eiPending = s.eiPending := by cases o <;> rfl
@[simp] theorem State.accOp_halted (s : State) (o : AluOp) (v : Byte) : (s.accOp o v).halted = s.halted := by cases o <;> rfl
@[simp] theorem State.accOp_serial (s : State) (o : AluOp) (v : Byte) : (s.accOp o v).serial = s.serial := by cases o <;> rfl
@[simp] theorem State.accOp_fault (s : State) (o : AluOp) (v : Byte) : (s.accOp o v).fault = s.fault := by cases o <;> rfl
@[simp] theorem State.accOp_mem (s : State) (o : AluOp) (v : Byte) : (s.accOp o v).mem = s.mem := by cases o <;> rfl
@[simp] theorem State.accOp_pins (s : State) (o : AluOp) (v : Byte) : (s.accOp o v).pins = s.pins := by cases o <;> rfl
@[simp] theorem State.accOp_schedule (s : State) (o : AluOp) (v : Byte) : (s.accOp o v).schedule = s.schedule := by cases o <;> rfl
@[simp] theorem State.accOp_portIn (s : State) (o : AluOp) (v : Byte) : (s.accOp o v).portIn = s.portIn := by cases o <;> rfl
@[simp] theorem State.accOp_trace (s : State) (o : AluOp) (v : Byte) : (s.accOp o v).trace = s.trace := by cases o <;> rfl
@[simp] theorem State.accOp_tick (s : State) (o : AluOp) (v : Byte) : (s.accOp o v).tick = s.tick := by cases o <;> rfl

/-! ### incReg -/

@[simp] theorem State.incReg_variant (s : State) (x : Reg8) : (s.incReg x).variant = s.variant := rfl
@[simp] theorem State.incReg_memMap (s : State) (x : Reg8) : (s.incReg x).memMap = s.memMap := rfl
@[simp] theorem State.incReg_sp (s : State) (x : Reg8) : (s.incReg x).sp = s.sp := rfl
@[simp] theorem State.incReg_pc (s : State) (x : Reg8) : (s.incReg x).pc = s.pc := rfl
@[simp] theorem State.incReg_inte (s : State) (x : Reg8) : (s.incReg x).inte = s.inte := rfl
@[simp] theorem State.incReg_eiPending (s : State) (x : Reg8) : (s.incReg x).eiPending = s.eiPending := rfl
@[simp] theorem State.incReg_halted (s : State) (x : Reg8) : (s.incReg x).halted = s.halted := rfl
@[simp] theorem State.incReg_serial (s : State) (x : Reg8) : (s.incReg x).serial = s.serial := rfl
@[simp] theorem State.incReg_fault (s : State) (x : Reg8) : (s.incReg x).fault = s.fault := rfl
@[simp] theorem State.incReg_mem (s : State) (x : Reg8) : (s.incReg x).mem = s.mem := rfl
@[simp] theorem State.incReg_pins (s : State) (x : Reg8) : (s.incReg x).pins = s.pins := rfl
@[simp] theorem State.incReg_schedule (s : State) (x : Reg8) : (s.incReg x).schedule = s.schedule := rfl
@[simp] theorem State.incReg_portIn (s : State) (x : Reg8) : (s.incReg x).portIn = s.portIn := rfl
@[simp] theorem State.incReg_trace (s : State) (x : Reg8) : (s.incReg x).trace = s.trace := rfl
@[simp] theorem State.incReg_tick (s : State) (x : Reg8) : (s.incReg x).tick = s.tick := rfl

/-! ### decReg -/

@[simp] theorem State.decReg_variant (s : State) (x : Reg8) : (s.decReg x).variant = s.variant := rfl
@[simp] theorem State.decReg_memMap (s : State) (x : Reg8) : (s.decReg x).memMap = s.memMap := rfl
@[simp] theorem State.decReg_sp (s : State) (x : Reg8) : (s.decReg x).sp = s.sp := rfl
@[simp] theorem State.decReg_pc (s : State) (x : Reg8) : (s.decReg x).pc = s.pc := rfl
@[simp] theorem State.decReg_inte (s : State) (x : Reg8) : (s.decReg x).inte = s.inte := rfl
@[simp] theorem State.decReg_eiPending (s : State) (x : Reg8) : (s.decReg x).eiPending = s.eiPending := rfl
@[simp] theorem State.decReg_halted (s : State) (x : Reg8) : (s.decReg x).halted = s.halted := rfl
@[simp] theorem State.decReg_serial (s : State) (x : Reg8) : (s.decReg x).serial = s.serial := rfl
@[simp] theorem State.decReg_fault (s : State) (x : Reg8) : (s.decReg x).fault = s.fault := rfl
@[simp] theorem State.decReg_mem (s : State) (x : Reg8) : (s.decReg x).mem = s.mem := rfl
@[simp] theorem State.decReg_pins (s : State) (x : Reg8) : (s.decReg x).pins = s.pins := rfl
@[simp] theorem State.decReg_schedule (s : State) (x : Reg8) : (s.decReg x).schedule = s.schedule := rfl
@[simp] theorem State.decReg_portIn (s : State) (x : Reg8) : (s.decReg x).portIn = s.portIn := rfl
@[simp] theorem State.decReg_trace (s : State) (x : Reg8) : (s.decReg x).trace = s.trace := rfl
@[simp] theorem State.decReg_tick (s : State) (x : Reg8) : (s.decReg x).tick = s.tick := rfl

/-! ### incM -/

@[simp] theorem State.incM_variant (s : State) : (s.incM).variant = s.variant := rfl
@[simp] theorem State.incM_memMap (s : State) : (s.incM).memMap = s.memMap := rfl
@[simp] theorem State.incM_regs (s : State) : (s.incM).regs = s.regs := rfl
@[simp] theorem State.incM_sp (s : State) : (s.incM).sp = s.sp := rfl
@[simp] theorem State.incM_pc (s : State) : (s.incM).pc = s.pc := rfl
@[simp] theorem State.incM_inte (s : State) : (s.incM).inte = s.inte := rfl
@[simp] theorem State.incM_eiPending (s : State) : (s.incM).eiPending = s.eiPending := rfl
@[simp] theorem State.incM_halted (s : State) : (s.incM).halted = s.halted := rfl
@[simp] theorem State.incM_serial (s : State) : (s.incM).serial = s.serial := rfl
@[simp] theorem State.incM_fault (s : State) : (s.incM).fault = s.fault := rfl
@[simp] theorem State.incM_pins (s : State) : (s.incM).pins = s.pins := rfl
@[simp] theorem State.incM_schedule (s : State) : (s.incM).schedule = s.schedule := rfl
@[simp] theorem State.incM_portIn (s : State) : (s.incM).portIn = s.portIn := rfl
@[simp] theorem State.incM_trace (s : State) : (s.incM).trace = s.trace := rfl
@[simp] theorem State.incM_tick (s : State) : (s.incM).tick = s.tick := rfl

/-! ### decM -/

@[simp] theorem State.decM_variant (s : State) : (s.decM).variant = s.variant := rfl
@[simp] theorem State.decM_memMap (s : State) : (s.decM).memMap = s.memMap := rfl
@[simp] theorem State.decM_regs (s : State) : (s.decM).regs = s.regs := rfl
@[simp] theorem State.decM_sp (s : State) : (s.decM).sp = s.sp := rfl
@[simp] theorem State.decM_pc (s : State) : (s.decM).pc = s.pc := rfl
@[simp] theorem State.decM_inte (s : State) : (s.decM).inte = s.inte := rfl
@[simp] theorem State.decM_eiPending (s : State) : (s.decM).eiPending = s.eiPending := rfl
@[simp] theorem State.decM_halted (s : State) : (s.decM).halted = s.halted := rfl
@[simp] theorem State.decM_serial (s : State) : (s.decM).serial = s.serial := rfl
@[simp] theorem State.decM_fault (s : State) : (s.decM).fault = s.fault := rfl
@[simp] theorem State.decM_pins (s : State) : (s.decM).pins = s.pins := rfl
@[simp] theorem State.decM_schedule (s : State) : (s.decM).schedule = s.schedule := rfl
@[simp] theorem State.decM_portIn (s : State) : (s.decM).portIn = s.portIn := rfl
@[simp] theorem State.decM_trace (s : State) : (s.decM).trace = s.trace := rfl
@[simp] theorem State.decM_tick (s : State) : (s.decM).tick = s.tick := rfl

/-! ### addToHL -/

@[simp] theorem State.addToHL_variant (s : State) (v : Word) : (s.addToHL v).variant = s.variant := rfl
@[simp] theorem State.addToHL_memMap (s : State) (v : Word) : (s.addToHL v).memMap = s.memMap := rfl
@[simp] theorem State.addToHL_sp (s : State) (v : Word) : (s.addToHL v).sp = s.sp := rfl
@[simp] theorem State.addToHL_pc (s : State) (v : Word) : (s.addToHL v).pc = s.pc := rfl
@[simp] theorem State.addToHL_inte (s : State) (v : Word) : (s.addToHL v).inte = s.inte := rfl
@[simp] theorem State.addToHL_eiPending (s : State) (v : Word) : (s.addToHL v).eiPending = s.eiPending := rfl
@[simp] theorem State.addToHL_halted (s : State) (v : Word) : (s.addToHL v).halted = s.halted := rfl
@[simp] theorem State.addToHL_serial (s : State) (v : Word) : (s.addToHL v).serial = s.serial := rfl
@[simp] theorem State.addToHL_fault (s : State) (v : Word) : (s.addToHL v).fault = s.fault := rfl
@[simp] theorem State.addToHL_mem (s : State) (v : Word) : (s.addToHL v).mem = s.mem := rfl
@[simp] theorem State.addToHL_pins (s : State) (v : Word) : (s.addToHL v).pins = s.pins := rfl
@[simp] theorem State.addToHL_schedule (s : State) (v : Word) : (s.addToHL v).schedule = s.schedule := rfl
@[simp] theorem State.addToHL_portIn (s : State) (v : Word) : (s.addToHL v).portIn = s.portIn := rfl
@[simp] theorem State.addToHL_trace (s : State) (v : Word) : (s.addToHL v).trace = s.trace := rfl
@[simp] theorem State.addToHL_tick (s : State) (v : Word) : (s.addToHL v).tick = s.tick := rfl

/-! ### accDecimalAdjust -/

@[simp] theorem State.accDecimalAdjust_variant (s : State) : (s.accDecimalAdjust).variant = s.variant := rfl
@[simp] theorem State.accDecimalAdjust_memMap (s : State) : (s.accDecimalAdjust).memMap = s.memMap := rfl
@[simp] theorem State.accDecimalAdjust_sp (s : State) : (s.accDecimalAdjust).sp = s.sp := rfl
@[simp] theorem State.accDecimalAdjust_pc (s : State) : (s.accDecimalAdjust).pc = s.pc := rfl
@[simp] theorem State.accDecimalAdjust_inte (s : State) : (s.accDecimalAdjust).inte = s.inte := rfl
@[simp] theorem State.accDecimalAdjust_eiPending (s : State) : (s.accDecimalAdjust).eiPending = s.eiPending := rfl
@[simp] theorem State.accDecimalAdjust_halted (s : State) : (s.accDecimalAdjust).halted = s.halted := rfl
@[simp] theorem State.accDecimalAdjust_serial (s : State) : (s.accDecimalAdjust).serial = s.serial := rfl
@[simp] theorem State.accDecimalAdjust_fault (s : State) : (s.accDecimalAdjust).fault = s.fault := rfl
@[simp] theorem State.accDecimalAdjust_mem (s : State) : (s.accDecimalAdjust).mem = s.mem := rfl
@[simp] theorem State.accDecimalAdjust_pins (s : State) : (s.accDecimalAdjust).pins = s.pins := rfl
@[simp] theorem State.accDecimalAdjust_schedule (s : State) : (s.accDecimalAdjust).schedule = s.schedule := rfl
@[simp] theorem State.accDecimalAdjust_portIn (s : State) : (s.accDecimalAdjust).portIn = s.portIn := rfl
@[simp] theorem State.accDecimalAdjust_trace (s : State) : (s.accDecimalAdjust).trace = s.trace := rfl
@[simp] theorem State.accDecimalAdjust_tick (s : State) : (s.accDecimalAdjust).tick = s.tick := rfl

/-! ### accRotate -/

@[simp] theorem State.accRotate_variant (s : State) (r : Rotated) : (s.accRotate r).variant = s.variant := rfl
@[simp] theorem State.accRotate_memMap (s : State) (r : Rotated) : (s.accRotate r).memMap = s.memMap := rfl
@[simp] theorem State.accRotate_sp (s : State) (r : Rotated) : (s.accRotate r).sp = s.sp := rfl
@[simp] theorem State.accRotate_pc (s : State) (r : Rotated) : (s.accRotate r).pc = s.pc := rfl
@[simp] theorem State.accRotate_inte (s : State) (r : Rotated) : (s.accRotate r).inte = s.inte := rfl
@[simp] theorem State.accRotate_eiPending (s : State) (r : Rotated) : (s.accRotate r).eiPending = s.eiPending := rfl
@[simp] theorem State.accRotate_halted (s : State) (r : Rotated) : (s.accRotate r).halted = s.halted := rfl
@[simp] theorem State.accRotate_serial (s : State) (r : Rotated) : (s.accRotate r).serial = s.serial := rfl
@[simp] theorem State.accRotate_fault (s : State) (r : Rotated) : (s.accRotate r).fault = s.fault := rfl
@[simp] theorem State.accRotate_mem (s : State) (r : Rotated) : (s.accRotate r).mem = s.mem := rfl
@[simp] theorem State.accRotate_pins (s : State) (r : Rotated) : (s.accRotate r).pins = s.pins := rfl
@[simp] theorem State.accRotate_schedule (s : State) (r : Rotated) : (s.accRotate r).schedule = s.schedule := rfl
@[simp] theorem State.accRotate_portIn (s : State) (r : Rotated) : (s.accRotate r).portIn = s.portIn := rfl
@[simp] theorem State.accRotate_trace (s : State) (r : Rotated) : (s.accRotate r).trace = s.trace := rfl
@[simp] theorem State.accRotate_tick (s : State) (r : Rotated) : (s.accRotate r).tick = s.tick := rfl

/-! ### popAccFlags -/

@[simp] theorem State.popAccFlags_variant (s : State) : (s.popAccFlags).variant = s.variant := rfl
@[simp] theorem State.popAccFlags_memMap (s : State) : (s.popAccFlags).memMap = s.memMap := rfl
@[simp] theorem State.popAccFlags_pc (s : State) : (s.popAccFlags).pc = s.pc := rfl
@[simp] theorem State.popAccFlags_inte (s : State) : (s.popAccFlags).inte = s.inte := rfl
@[simp] theorem State.popAccFlags_eiPending (s : State) : (s.popAccFlags).eiPending = s.eiPending := rfl
@[simp] theorem State.popAccFlags_halted (s : State) : (s.popAccFlags).halted = s.halted := rfl
@[simp] theorem State.popAccFlags_serial (s : State) : (s.popAccFlags).serial = s.serial := rfl
@[simp] theorem State.popAccFlags_fault (s : State) : (s.popAccFlags).fault = s.fault := rfl
@[simp] theorem State.popAccFlags_mem (s : State) : (s.popAccFlags).mem = s.mem := rfl
@[simp] theorem State.popAccFlags_pins (s : State) : (s.popAccFlags).pins = s.pins := rfl
@[simp] theorem State.popAccFlags_schedule (s : State) : (s.popAccFlags).schedule = s.schedule := rfl
@[simp] theorem State.popAccFlags_portIn (s : State) : (s.popAccFlags).portIn = s.portIn := rfl
@[simp] theorem State.popAccFlags_trace (s : State) : (s.popAccFlags).trace = s.trace := rfl
@[simp] theorem State.popAccFlags_tick (s : State) : (s.popAccFlags).tick = s.tick := rfl

/-! ### exchangeTopHL -/

@[simp] theorem State.exchangeTopHL_variant (s : State) : (s.exchangeTopHL).variant = s.variant := rfl
@[simp] theorem State.exchangeTopHL_memMap (s : State) : (s.exchangeTopHL).memMap = s.memMap := rfl
@[simp] theorem State.exchangeTopHL_sp (s : State) : (s.exchangeTopHL).sp = s.sp := rfl
@[simp] theorem State.exchangeTopHL_pc (s : State) : (s.exchangeTopHL).pc = s.pc := rfl
@[simp] theorem State.exchangeTopHL_flags (s : State) : (s.exchangeTopHL).flags = s.flags := rfl
@[simp] theorem State.exchangeTopHL_inte (s : State) : (s.exchangeTopHL).inte = s.inte := rfl
@[simp] theorem State.exchangeTopHL_eiPending (s : State) : (s.exchangeTopHL).eiPending = s.eiPending := rfl
@[simp] theorem State.exchangeTopHL_halted (s : State) : (s.exchangeTopHL).halted = s.halted := rfl
@[simp] theorem State.exchangeTopHL_serial (s : State) : (s.exchangeTopHL).serial = s.serial := rfl
@[simp] theorem State.exchangeTopHL_fault (s : State) : (s.exchangeTopHL).fault = s.fault := rfl
@[simp] theorem State.exchangeTopHL_pins (s : State) : (s.exchangeTopHL).pins = s.pins := rfl
@[simp] theorem State.exchangeTopHL_schedule (s : State) : (s.exchangeTopHL).schedule = s.schedule := rfl
@[simp] theorem State.exchangeTopHL_portIn (s : State) : (s.exchangeTopHL).portIn = s.portIn := rfl
@[simp] theorem State.exchangeTopHL_trace (s : State) : (s.exchangeTopHL).trace = s.trace := rfl
@[simp] theorem State.exchangeTopHL_tick (s : State) : (s.exchangeTopHL).tick = s.tick := rfl

/-! ### disableInterrupts -/

@[simp] theorem State.disableInterrupts_variant (s : State) : (s.disableInterrupts).variant = s.variant := rfl
@[simp] theorem State.disableInterrupts_memMap (s : State) : (s.disableInterrupts).memMap = s.memMap := rfl
@[simp] theorem State.disableInterrupts_regs (s : State) : (s.disableInterrupts).regs = s.regs := rfl
@[simp] theorem State.disableInterrupts_sp (s : State) : (s.disableInterrupts).sp = s.sp := rfl
@[simp] theorem State.disableInterrupts_pc (s : State) : (s.disableInterrupts).pc = s.pc := rfl
@[simp] theorem State.disableInterrupts_flags (s : State) : (s.disableInterrupts).flags = s.flags := rfl
@[simp] theorem State.disableInterrupts_halted (s : State) : (s.disableInterrupts).halted = s.halted := rfl
@[simp] theorem State.disableInterrupts_serial (s : State) : (s.disableInterrupts).serial = s.serial := rfl
@[simp] theorem State.disableInterrupts_fault (s : State) : (s.disableInterrupts).fault = s.fault := rfl
@[simp] theorem State.disableInterrupts_mem (s : State) : (s.disableInterrupts).mem = s.mem := rfl
@[simp] theorem State.disableInterrupts_pins (s : State) : (s.disableInterrupts).pins = s.pins := rfl
@[simp] theorem State.disableInterrupts_schedule (s : State) : (s.disableInterrupts).schedule = s.schedule := rfl
@[simp] theorem State.disableInterrupts_portIn (s : State) : (s.disableInterrupts).portIn = s.portIn := rfl
@[simp] theorem State.disableInterrupts_trace (s : State) : (s.disableInterrupts).trace = s.trace := rfl
@[simp] theorem State.disableInterrupts_tick (s : State) : (s.disableInterrupts).tick = s.tick := rfl

/-! ### halt -/

@[simp] theorem State.halt_variant (s : State) : (s.halt).variant = s.variant := rfl
@[simp] theorem State.halt_memMap (s : State) : (s.halt).memMap = s.memMap := rfl
@[simp] theorem State.halt_regs (s : State) : (s.halt).regs = s.regs := rfl
@[simp] theorem State.halt_sp (s : State) : (s.halt).sp = s.sp := rfl
@[simp] theorem State.halt_pc (s : State) : (s.halt).pc = s.pc := rfl
@[simp] theorem State.halt_flags (s : State) : (s.halt).flags = s.flags := rfl
@[simp] theorem State.halt_inte (s : State) : (s.halt).inte = s.inte := rfl
@[simp] theorem State.halt_eiPending (s : State) : (s.halt).eiPending = s.eiPending := rfl
@[simp] theorem State.halt_serial (s : State) : (s.halt).serial = s.serial := rfl
@[simp] theorem State.halt_fault (s : State) : (s.halt).fault = s.fault := rfl
@[simp] theorem State.halt_mem (s : State) : (s.halt).mem = s.mem := rfl
@[simp] theorem State.halt_pins (s : State) : (s.halt).pins = s.pins := rfl
@[simp] theorem State.halt_schedule (s : State) : (s.halt).schedule = s.schedule := rfl
@[simp] theorem State.halt_portIn (s : State) : (s.halt).portIn = s.portIn := rfl
@[simp] theorem State.halt_trace (s : State) : (s.halt).trace = s.trace := rfl
@[simp] theorem State.halt_tick (s : State) : (s.halt).tick = s.tick := rfl

/-! ### setMasks -/

@[simp] theorem State.setMasks_variant (s : State) : (s.setMasks).variant = s.variant := by unfold State.setMasks; dsimp only; split <;> rfl
@[simp] theorem State.setMasks_memMap (s : State) : (s.setMasks).memMap = s.memMap := by unfold State.setMasks; dsimp only; split <;> rfl
@[simp] theorem State.setMasks_regs (s : State) : (s.setMasks).regs = s.regs := by unfold State.setMasks; dsimp only; split <;> rfl
@[simp] theorem State.setMasks_sp (s : State) : (s.setMasks).sp = s.sp := by unfold State.setMasks; dsimp only; split <;> rfl
@[simp] theorem State.setMasks_pc (s : State) : (s.setMasks).pc = s.pc := by unfold State.setMasks; dsimp only; split <;> rfl
@[simp] theorem State.setMasks_flags (s : State) : (s.setMasks).flags = s.flags := by unfold State.setMasks; dsimp only; split <;> rfl
@[simp] theorem State.setMasks_inte (s : State) : (s.setMasks).inte = s.inte := by unfold State.setMasks; dsimp only; split <;> rfl
@[simp] theorem State.setMasks_eiPending (s : State) : (s.setMasks).eiPending = s.eiPending := by unfold State.setMasks; dsimp only; split <;> rfl
@[simp] theorem State.setMasks_halted (s : State) : (s.setMasks).halted = s.halted := by unfold State.setMasks; dsimp only; split <;> rfl
@[simp] theorem State.setMasks_fault (s : State) : (s.setMasks).fault = s.fault := by unfold State.setMasks; dsimp only; split <;> rfl
@[simp] theorem State.setMasks_mem (s : State) : (s.setMasks).mem = s.mem := by unfold State.setMasks; dsimp only; split <;> rfl
@[simp] theorem State.setMasks_pins (s : State) : (s.setMasks).pins = s.pins := by unfold State.setMasks; dsimp only; split <;> rfl
@[simp] theorem State.setMasks_schedule (s : State) : (s.setMasks).schedule = s.schedule := by unfold State.setMasks; dsimp only; split <;> rfl
@[simp] theorem State.setMasks_portIn (s : State) : (s.setMasks).portIn = s.portIn := by unfold State.setMasks; dsimp only; split <;> rfl
@[simp] theorem State.setMasks_tick (s : State) : (s.setMasks).tick = s.tick := by unfold State.setMasks; dsimp only; split <;> rfl

/-! ### readMasks -/

@[simp] theorem State.readMasks_variant (s : State) : (s.readMasks).variant = s.variant := rfl
@[simp] theorem State.readMasks_memMap (s : State) : (s.readMasks).memMap = s.memMap := rfl
@[simp] theorem State.readMasks_sp (s : State) : (s.readMasks).sp = s.sp := rfl
@[simp] theorem State.readMasks_pc (s : State) : (s.readMasks).pc = s.pc := rfl
@[simp] theorem State.readMasks_flags (s : State) : (s.readMasks).flags = s.flags := rfl
@[simp] theorem State.readMasks_inte (s : State) : (s.readMasks).inte = s.inte := rfl
@[simp] theorem State.readMasks_eiPending (s : State) : (s.readMasks).eiPending = s.eiPending := rfl
@[simp] theorem State.readMasks_halted (s : State) : (s.readMasks).halted = s.halted := rfl
@[simp] theorem State.readMasks_serial (s : State) : (s.readMasks).serial = s.serial := rfl
@[simp] theorem State.readMasks_fault (s : State) : (s.readMasks).fault = s.fault := rfl
@[simp] theorem State.readMasks_mem (s : State) : (s.readMasks).mem = s.mem := rfl
@[simp] theorem State.readMasks_pins (s : State) : (s.readMasks).pins = s.pins := rfl
@[simp] theorem State.readMasks_schedule (s : State) : (s.readMasks).schedule = s.schedule := rfl
@[simp] theorem State.readMasks_portIn (s : State) : (s.readMasks).portIn = s.portIn := rfl
@[simp] theorem State.readMasks_tick (s : State) : (s.readMasks).tick = s.tick := rfl

/-! ### jumpIf -/

@[simp] theorem State.jumpIf_variant (s : State) (k : Cond) (a : Word) : (s.jumpIf k a).variant = s.variant := by cases h : s.flags.holds k <;> simp [State.jumpIf, h]
@[simp] theorem State.jumpIf_memMap (s : State) (k : Cond) (a : Word) : (s.jumpIf k a).memMap = s.memMap := by cases h : s.flags.holds k <;> simp [State.jumpIf, h]
@[simp] theorem State.jumpIf_regs (s : State) (k : Cond) (a : Word) : (s.jumpIf k a).regs = s.regs := by cases h : s.flags.holds k <;> simp [State.jumpIf, h]
@[simp] theorem State.jumpIf_sp (s : State) (k : Cond) (a : Word) : (s.jumpIf k a).sp = s.sp := by cases h : s.flags.holds k <;> simp [State.jumpIf, h]
@[simp] theorem State.jumpIf_flags (s : State) (k : Cond) (a : Word) : (s.jumpIf k a).flags = s.flags := by cases h : s.flags.holds k <;> simp [State.jumpIf, h]
@[simp] theorem State.jumpIf_inte (s : State) (k : Cond) (a : Word) : (s.jumpIf k a).inte = s.inte := by cases h : s.flags.holds k <;> simp [State.jumpIf, h]
@[simp] theorem State.jumpIf_eiPending (s : State) (k : Cond) (a : Word) : (s.jumpIf k a).eiPending = s.eiPending := by cases h : s.flags.holds k <;> simp [State.jumpIf, h]
@[simp] theorem State.jumpIf_halted (s : State) (k : Cond) (a : Word) : (s.jumpIf k a).halted = s.halted := by cases h : s.flags.holds k <;> simp [State.jumpIf, h]
@[simp] theorem State.jumpIf_serial (s : State) (k : Cond) (a : Word) : (s.jumpIf k a).serial = s.serial := by cases h : s.flags.holds k <;> simp [State.jumpIf, h]
@[simp] theorem State.jumpIf_fault (s : State) (k : Cond) (a : Word) : (s.jumpIf k a).fault = s.fault := by cases h : s.flags.holds k <;> simp [State.jumpIf, h]
@[simp] theorem State.jumpIf_mem (s : State) (k : Cond) (a : Word) : (s.jumpIf k a).mem = s.mem := by cases h : s.flags.holds k <;> simp [State.jumpIf, h]
@[simp] theorem State.jumpIf_pins (s : State) (k : Cond) (a : Word) : (s.jumpIf k a).pins = s.pins := by cases h : s.flags.holds k <;> simp [State.jumpIf, h]
@[simp] theorem State.jumpIf_schedule (s : State) (k : Cond) (a : Word) : (s.jumpIf k a).schedule = s.schedule := by cases h : s.flags.holds k <;> simp [State.jumpIf, h]
@[simp] theorem State.jumpIf_portIn (s : State) (k : Cond) (a : Word) : (s.jumpIf k a).portIn = s.portIn := by cases h : s.flags.holds k <;> simp [State.jumpIf, h]
@[simp] theorem State.jumpIf_trace (s : State) (k : Cond) (a : Word) : (s.jumpIf k a).trace = s.trace := by cases h : s.flags.holds k <;> simp [State.jumpIf, h]
@[simp] theorem State.jumpIf_tick (s : State) (k : Cond) (a : Word) : (s.jumpIf k a).tick = s.tick := by cases h : s.flags.holds k <;> simp [State.jumpIf, h]

/-! ### callIf -/

@[simp] theorem State.callIf_variant (s : State) (k : Cond) (a : Word) : (s.callIf k a).variant = s.variant := by cases h : s.flags.holds k <;> simp [State.callIf, h]
@[simp] theorem State.callIf_memMap (s : State) (k : Cond) (a : Word) : (s.callIf k a).memMap = s.memMap := by cases h : s.flags.holds k <;> simp [State.callIf, h]
@[simp] theorem State.callIf_regs (s : State) (k : Cond) (a : Word) : (s.callIf k a).regs = s.regs := by cases h : s.flags.holds k <;> simp [State.callIf, h]
@[simp] theorem State.callIf_flags (s : State) (k : Cond) (a : Word) : (s.callIf k a).flags = s.flags := by cases h : s.flags.holds k <;> simp [State.callIf, h]
@[simp] theorem State.callIf_inte (s : State) (k : Cond) (a : Word) : (s.callIf k a).inte = s.inte := by cases h : s.flags.holds k <;> simp [State.callIf, h]
@[simp] theorem State.callIf_eiPending (s : State) (k : Cond) (a : Word) : (s.callIf k a).eiPending = s.eiPending := by cases h : s.flags.holds k <;> simp [State.callIf, h]
@[simp] theorem State.callIf_halted (s : State) (k : Cond) (a : Word) : (s.callIf k a).halted = s.halted := by cases h : s.flags.holds k <;> simp [State.callIf, h]
@[simp] theorem State.callIf_serial (s : State) (k : Cond) (a : Word) : (s.callIf k a).serial = s.serial := by cases h : s.flags.holds k <;> simp [State.callIf, h]
@[simp] theorem State.callIf_fault (s : State) (k : Cond) (a : Word) : (s.callIf k a).fault = s.fault := by cases h : s.flags.holds k <;> simp [State.callIf, h]
@[simp] theorem State.callIf_pins (s : State) (k : Cond) (a : Word) : (s.callIf k a).pins = s.pins := by cases h : s.flags.holds k <;> simp [State.callIf, h]
@[simp] theorem State.callIf_schedule (s : State) (k : Cond) (a : Word) : (s.callIf k a).schedule = s.schedule := by cases h : s.flags.holds k <;> simp [State.callIf, h]
@[simp] theorem State.callIf_portIn (s : State) (k : Cond) (a : Word) : (s.callIf k a).portIn = s.portIn := by cases h : s.flags.holds k <;> simp [State.callIf, h]
@[simp] theorem State.callIf_trace (s : State) (k : Cond) (a : Word) : (s.callIf k a).trace = s.trace := by cases h : s.flags.holds k <;> simp [State.callIf, h]
@[simp] theorem State.callIf_tick (s : State) (k : Cond) (a : Word) : (s.callIf k a).tick = s.tick := by cases h : s.flags.holds k <;> simp [State.callIf, h]

/-! ### returnIf -/

@[simp] theorem State.returnIf_variant (s : State) (k : Cond) : (s.returnIf k).variant = s.variant := by cases h : s.flags.holds k <;> simp [State.returnIf, h]
@[simp] theorem State.returnIf_memMap (s : State) (k : Cond) : (s.returnIf k).memMap = s.memMap := by cases h : s.flags.holds k <;> simp [State.returnIf, h]
@[simp] theorem State.returnIf_regs (s : State) (k : Cond) : (s.returnIf k).regs = s.regs := by cases h : s.flags.holds k <;> simp [State.returnIf, h]
@[simp] theorem State.returnIf_flags (s : State) (k : Cond) : (s.returnIf k).flags = s.flags := by cases h : s.flags.holds k <;> simp [State.returnIf, h]
@[simp] theorem State.returnIf_inte (s : State) (k : Cond) : (s.returnIf k).inte = s.inte := by cases h : s.flags.holds k <;> simp [State.returnIf, h]
@[simp] theorem State.returnIf_eiPending (s : State) (k : Cond) : (s.returnIf k).eiPending = s.eiPending := by cases h : s.flags.holds k <;> simp [State.returnIf, h]
@[simp] theorem State.returnIf_halted (s : State) (k : Cond) : (s.returnIf k).halted = s.halted := by cases h : s.flags.holds k <;> simp [State.returnIf, h]
@[simp] theorem State.returnIf_serial (s : State) (k : Cond) : (s.returnIf k).serial = s.serial := by cases h : s.flags.holds k <;> simp [State.returnIf, h]
@[simp] theorem State.returnIf_fault (s : State) (k : Cond) : (s.returnIf k).fault = s.fault := by cases h : s.flags.holds k <;> simp [State.returnIf, h]
@[simp] theorem State.returnIf_mem (s : State) (k : Cond) : (s.returnIf k).mem = s.mem := by cases h : s.flags.holds k <;> simp [State.returnIf, h]
@[simp] theorem State.returnIf_pins (s : State) (k : Cond) : (s.returnIf k).pins = s.pins := by cases h : s.flags.holds k <;> simp [State.returnIf, h]
@[simp] theorem State.returnIf_schedule (s : State) (k : Cond) : (s.returnIf k).schedule = s.schedule := by cases h : s.flags.holds k <;> simp [State.returnIf, h]
@[simp] theorem State.returnIf_portIn (s : State) (k : Cond) : (s.returnIf k).portIn = s.portIn := by cases h : s.flags.holds k <;> simp [State.returnIf, h]
@[simp] theorem State.returnIf_trace (s : State) (k : Cond) : (s.returnIf k).trace = s.trace := by cases h : s.flags.holds k <;> simp [State.returnIf, h]
@[simp] theorem State.returnIf_tick (s : State) (k : Cond) : (s.returnIf k).tick = s.tick := by cases h : s.flags.holds k <;> simp [State.returnIf, h]

end Sys2Proof.Machine
end

