-- ==== Sys2Proof/Laws/Exec.lean ====
section
/-!
SUPPORT. What `exec` is for each form of instruction, over its operands, and the case analysis on forms: a statement
about every instruction is proved once a form and not once a constructor.
-/

namespace Sys2Proof.Machine

theorem exec_movRegReg (x y : Reg8) (s : State) :
    exec (Instr.movRegReg x y) s = ordinary 1 (fun s => s.setReg x (s.reg y)) s := by
  cases x <;> cases y <;> rfl

theorem exec_movRegMem (x : Reg8) (s : State) :
    exec (Instr.movRegMem x) s = ordinary 1 (fun s => s.setReg x s.mOperand) s := by
  cases x <;> rfl

theorem exec_movMemReg (x : Reg8) (s : State) :
    exec (Instr.movMemReg x) s = ordinary 1 (fun s => s.setM (s.reg x)) s := by
  cases x <;> rfl

theorem exec_mviReg (x : Reg8) (v : Byte) (s : State) :
    exec (Instr.mviReg x v) s = ordinary 2 (fun s => s.setReg x v) s := by
  cases x <;> rfl

theorem exec_mviM (v : Byte) (s : State) :
    exec (.mviM v) s = ordinary 2 (fun s => s.setM v) s := rfl

theorem exec_lxi (p : RegPair) (v : Word) (s : State) :
    exec (Instr.lxi p v) s = ordinary 3 (fun s => s.setPair p v) s := by
  cases p <;> rfl

theorem exec_lda (a : Word) (s : State) :
    exec (.lda a) s = ordinary 3 (fun s => s.setReg .a (s.readByte a)) s := rfl

theorem exec_sta (a : Word) (s : State) :
    exec (.sta a) s = ordinary 3 (fun s => s.writeByte a (s.reg .a)) s := rfl

theorem exec_lhld (a : Word) (s : State) :
    exec (.lhld a) s = ordinary 3 (fun s => s.setPair .hl (s.readWord a)) s := rfl

theorem exec_shld (a : Word) (s : State) :
    exec (.shld a) s = ordinary 3 (fun s => s.storeHL a) s := rfl

theorem exec_ldax (p : IndexPair) (s : State) :
    exec (Instr.ldax p) s = ordinary 1 (fun s => s.setReg .a (s.readByte (s.indexPair p))) s := by
  cases p <;> rfl

theorem exec_stax (p : IndexPair) (s : State) :
    exec (Instr.stax p) s = ordinary 1 (fun s => s.writeByte (s.indexPair p) (s.reg .a)) s := by
  cases p <;> rfl

theorem exec_xchg (s : State) :
    exec (.xchg) s = ordinary 1 (fun s => s.exchangeDEHL) s := rfl

theorem exec_aluReg (o : AluOp) (x : Reg8) (s : State) :
    exec (Instr.aluReg o x) s = ordinary 1 (fun s => s.accOp o (s.reg x)) s := by
  cases o <;> cases x <;> rfl

theorem exec_aluMem (o : AluOp) (s : State) :
    exec (Instr.aluMem o) s = ordinary 1 (fun s => s.accOp o s.mOperand) s := by
  cases o <;> rfl

theorem exec_aluImm (o : AluOp) (v : Byte) (s : State) :
    exec (Instr.aluImm o v) s = ordinary 2 (fun s => s.accOp o v) s := by
  cases o <;> rfl

theorem exec_inrReg (x : Reg8) (s : State) :
    exec (Instr.inrReg x) s = ordinary 1 (fun s => s.incReg x) s := by
  cases x <;> rfl

theorem exec_dcrReg (x : Reg8) (s : State) :
    exec (Instr.dcrReg x) s = ordinary 1 (fun s => s.decReg x) s := by
  cases x <;> rfl

theorem exec_inrM (s : State) :
    exec (.inrM) s = ordinary 1 (fun s => s.incM) s := rfl

theorem exec_dcrM (s : State) :
    exec (.dcrM) s = ordinary 1 (fun s => s.decM) s := rfl

theorem exec_inx (p : RegPair) (s : State) :
    exec (Instr.inx p) s = ordinary 1 (fun s => s.setPair p (s.pair p + 1)) s := by
  cases p <;> rfl

theorem exec_dcx (p : RegPair) (s : State) :
    exec (Instr.dcx p) s = ordinary 1 (fun s => s.setPair p (s.pair p - 1)) s := by
  cases p <;> rfl

theorem exec_dad (p : RegPair) (s : State) :
    exec (Instr.dad p) s = ordinary 1 (fun s => s.addToHL (s.pair p)) s := by
  cases p <;> rfl

theorem exec_daa (s : State) :
    exec (.daa) s = ordinary 1 (fun s => s.accDecimalAdjust) s := rfl

theorem exec_rlc (s : State) :
    exec (.rlc) s = ordinary 1 (fun s => s.accRotate (rlc8 s.regs.a)) s := rfl

theorem exec_rrc (s : State) :
    exec (.rrc) s = ordinary 1 (fun s => s.accRotate (rrc8 s.regs.a)) s := rfl

theorem exec_ral (s : State) :
    exec (.ral) s = ordinary 1 (fun s => s.accRotate (ral8 s.regs.a s.flags.cy)) s := rfl

theorem exec_rar (s : State) :
    exec (.rar) s = ordinary 1 (fun s => s.accRotate (rar8 s.regs.a s.flags.cy)) s := rfl

theorem exec_cma (s : State) :
    exec (.cma) s = ordinary 1 (fun s => s.setReg .a (~~~s.regs.a)) s := rfl

theorem exec_cmc (s : State) :
    exec (.cmc) s = ordinary 1 (fun s => s.setCarry (!s.flags.cy)) s := rfl

theorem exec_stc (s : State) :
    exec (.stc) s = ordinary 1 (fun s => s.setCarry true) s := rfl

theorem exec_jmp (a : Word) (s : State) :
    exec (.jmp a) s = ordinary 3 (fun s => s.jumpTo a) s := rfl

theorem exec_jcond (k : Cond) (a : Word) (s : State) :
    exec (Instr.jcond k a) s = ordinary 3 (fun s => s.jumpIf k a) s := by
  cases k <;> rfl

theorem exec_pchl (s : State) :
    exec (.pchl) s = ordinary 1 (fun s => s.jumpTo s.hl) s := rfl

theorem exec_call (a : Word) (s : State) :
    exec (.call a) s = ordinary 3 (fun s => s.callTo a) s := rfl

theorem exec_ccond (k : Cond) (a : Word) (s : State) :
    exec (Instr.ccond k a) s = ordinary 3 (fun s => s.callIf k a) s := by
  cases k <;> rfl

theorem exec_ret (s : State) :
    exec (.ret) s = ordinary 1 (fun s => s.returnFromCall) s := rfl

theorem exec_rcond (k : Cond) (s : State) :
    exec (Instr.rcond k) s = ordinary 1 (fun s => s.returnIf k) s := by
  cases k <;> rfl

theorem exec_rst (n : Fin 8) (s : State) :
    exec (Instr.rst n) s = ordinary 1 (fun s => s.callTo (rstTarget n.val)) s := by
  match n with
  | 0 => rfl
  | 1 => rfl
  | 2 => rfl
  | 3 => rfl
  | 4 => rfl
  | 5 => rfl
  | 6 => rfl
  | 7 => rfl

theorem exec_push (p : StackPair) (s : State) :
    exec (Instr.push p) s = ordinary 1 (fun s => s.pushBytes (s.reg p.high) (s.reg p.low)) s := by
  cases p <;> rfl

theorem exec_pushPsw (s : State) :
    exec (.pushPsw) s = ordinary 1 (fun s => s.pushBytes s.regs.a s.flags.toByte) s := rfl

theorem exec_pop (p : StackPair) (s : State) :
    exec (Instr.pop p) s = ordinary 1 (fun s => s.dropWord.setPair p.toPair s.topWord) s := by
  cases p <;> rfl

theorem exec_popPsw (s : State) :
    exec (.popPsw) s = ordinary 1 (fun s => s.popAccFlags) s := rfl

theorem exec_xthl (s : State) :
    exec (.xthl) s = ordinary 1 (fun s => s.exchangeTopHL) s := rfl

theorem exec_sphl (s : State) :
    exec (.sphl) s = ordinary 1 (fun s => s.setPair .sp s.hl) s := rfl

theorem exec_inPort (p : Byte) (s : State) :
    exec (.inPort p) s = ordinary 2 (fun s => (s.takePortAnswer p).setReg .a (s.portAnswer p)) s := rfl

theorem exec_outPort (p : Byte) (s : State) :
    exec (.outPort p) s = ordinary 2 (fun s => s.record (.portOut p s.regs.a)) s := rfl

theorem exec_ei (s : State) :
    exec (.ei) s = runInstr .ei 1 (fun s => s) s := rfl

theorem exec_di (s : State) :
    exec (.di) s = runInstr .di 1 (fun s => s.disableInterrupts) s := rfl

theorem exec_hlt (s : State) :
    exec (.hlt) s = ordinary 1 (fun s => s.halt) s := rfl

theorem exec_nop (s : State) :
    exec (.nop) s = ordinary 1 (fun s => s) s := rfl

theorem exec_sim (s : State) :
    exec (.sim) s = only85 0x30#8 (ordinary 1 (fun s => s.setMasks)) s := rfl

theorem exec_rim (s : State) :
    exec (.rim) s = only85 0x20#8 (ordinary 1 (fun s => s.readMasks)) s := rfl

theorem exec_undefined (op : Byte) (s : State) :
    exec (.undefined op) s = .fault (.undefinedOpcode op s.pc) := rfl

end Sys2Proof.Machine

namespace Sys2Proof

/-- Case analysis on the form of an instruction. -/
theorem Instr.byForms {P : Instr → Prop}
    (h_movRegReg : ∀ (x y : Reg8), P (Instr.movRegReg x y))
    (h_movRegMem : ∀ (x : Reg8), P (Instr.movRegMem x))
    (h_movMemReg : ∀ (x : Reg8), P (Instr.movMemReg x))
    (h_mviReg : ∀ (x : Reg8) (v : Byte), P (Instr.mviReg x v))
    (h_mviM : ∀ (v : Byte), P (.mviM v))
    (h_lxi : ∀ (p : RegPair) (v : Word), P (Instr.lxi p v))
    (h_lda : ∀ (a : Word), P (.lda a))
    (h_sta : ∀ (a : Word), P (.sta a))
    (h_lhld : ∀ (a : Word), P (.lhld a))
    (h_shld : ∀ (a : Word), P (.shld a))
    (h_ldax : ∀ (p : IndexPair), P (Instr.ldax p))
    (h_stax : ∀ (p : IndexPair), P (Instr.stax p))
    (h_xchg : P .xchg)
    (h_aluReg : ∀ (o : AluOp) (x : Reg8), P (Instr.aluReg o x))
    (h_aluMem : ∀ (o : AluOp), P (Instr.aluMem o))
    (h_aluImm : ∀ (o : AluOp) (v : Byte), P (Instr.aluImm o v))
    (h_inrReg : ∀ (x : Reg8), P (Instr.inrReg x))
    (h_dcrReg : ∀ (x : Reg8), P (Instr.dcrReg x))
    (h_inrM : P .inrM)
    (h_dcrM : P .dcrM)
    (h_inx : ∀ (p : RegPair), P (Instr.inx p))
    (h_dcx : ∀ (p : RegPair), P (Instr.dcx p))
    (h_dad : ∀ (p : RegPair), P (Instr.dad p))
    (h_daa : P .daa)
    (h_rlc : P .rlc)
    (h_rrc : P .rrc)
    (h_ral : P .ral)
    (h_rar : P .rar)
    (h_cma : P .cma)
    (h_cmc : P .cmc)
    (h_stc : P .stc)
    (h_jmp : ∀ (a : Word), P (.jmp a))
    (h_jcond : ∀ (k : Cond) (a : Word), P (Instr.jcond k a))
    (h_pchl : P .pchl)
    (h_call : ∀ (a : Word), P (.call a))
    (h_ccond : ∀ (k : Cond) (a : Word), P (Instr.ccond k a))
    (h_ret : P .ret)
    (h_rcond : ∀ (k : Cond), P (Instr.rcond k))
    (h_rst : ∀ (n : Fin 8), P (Instr.rst n))
    (h_push : ∀ (p : StackPair), P (Instr.push p))
    (h_pushPsw : P .pushPsw)
    (h_pop : ∀ (p : StackPair), P (Instr.pop p))
    (h_popPsw : P .popPsw)
    (h_xthl : P .xthl)
    (h_sphl : P .sphl)
    (h_inPort : ∀ (p : Byte), P (.inPort p))
    (h_outPort : ∀ (p : Byte), P (.outPort p))
    (h_ei : P .ei)
    (h_di : P .di)
    (h_hlt : P .hlt)
    (h_nop : P .nop)
    (h_sim : P .sim)
    (h_rim : P .rim)
    (h_undefined : ∀ (op : Byte), P (.undefined op))
    (i : Instr) : P i := by
  cases i with
  | nop => exact h_nop
  | lxiB v => exact h_lxi .bc v
  | staxB => exact h_stax .bc
  | inxB => exact h_inx .bc
  | inrB => exact h_inrReg .b
  | dcrB => exact h_dcrReg .b
  | mviB v => exact h_mviReg .b v
  | rlc => exact h_rlc
  | dadB => exact h_dad .bc
  | ldaxB => exact h_ldax .bc
  | dcxB => exact h_dcx .bc
  | inrC => exact h_inrReg .c
  | dcrC => exact h_dcrReg .c
  | mviC v => exact h_mviReg .c v
  | rrc => exact h_rrc
  | lxiD v => exact h_lxi .de v
  | staxD => exact h_stax .de
  | inxD => exact h_inx .de
  | inrD => exact h_inrReg .d
  | dcrD => exact h_dcrReg .d
  | mviD v => exact h_mviReg .d v
  | ral => exact h_ral
  | dadD => exact h_dad .de
  | ldaxD => exact h_ldax .de
  | dcxD => exact h_dcx .de
  | inrE => exact h_inrReg .e
  | dcrE => exact h_dcrReg .e
  | mviE v => exact h_mviReg .e v
  | rar => exact h_rar
  | rim => exact h_rim
  | lxiH v => exact h_lxi .hl v
  | shld v => exact h_shld v
  | inxH => exact h_inx .hl
  | inrH => exact h_inrReg .h
  | dcrH => exact h_dcrReg .h
  | mviH v => exact h_mviReg .h v
  | daa => exact h_daa
  | dadH => exact h_dad .hl
  | lhld v => exact h_lhld v
  | dcxH => exact h_dcx .hl
  | inrL => exact h_inrReg .l
  | dcrL => exact h_dcrReg .l
  | mviL v => exact h_mviReg .l v
  | cma => exact h_cma
  | sim => exact h_sim
  | lxiSp v => exact h_lxi .sp v
  | sta v => exact h_sta v
  | inxSp => exact h_inx .sp
  | inrM => exact h_inrM
  | dcrM => exact h_dcrM
  | mviM v => exact h_mviM v
  | stc => exact h_stc
  | dadSp => exact h_dad .sp
  | lda v => exact h_lda v
  | dcxSp => exact h_dcx .sp
  | inrA => exact h_inrReg .a
  | dcrA => exact h_dcrReg .a
  | mviA v => exact h_mviReg .a v
  | cmc => exact h_cmc
  | movBB => exact h_movRegReg .b .b
  | movBC => exact h_movRegReg .b .c
  | movBD => exact h_movRegReg .b .d
  | movBE => exact h_movRegReg .b .e
  | movBH => exact h_movRegReg .b .h
  | movBL => exact h_movRegReg .b .l
  | movBM => exact h_movRegMem .b
  | movBA => exact h_movRegReg .b .a
  | movCB => exact h_movRegReg .c .b
  | movCC => exact h_movRegReg .c .c
  | movCD => exact h_movRegReg .c .d
  | movCE => exact h_movRegReg .c .e
  | movCH => exact h_movRegReg .c .h
  | movCL => exact h_movRegReg .c .l
  | movCM => exact h_movRegMem .c
  | movCA => exact h_movRegReg .c .a
  | movDB => exact h_movRegReg .d .b
  | movDC => exact h_movRegReg .d .c
  | movDD => exact h_movRegReg .d .d
  | movDE => exact h_movRegReg .d .e
  | movDH => exact h_movRegReg .d .h
  | movDL => exact h_movRegReg .d .l
  | movDM => exact h_movRegMem .d
  | movDA => exact h_movRegReg .d .a
  | movEB => exact h_movRegReg .e .b
  | movEC => exact h_movRegReg .e .c
  | movED => exact h_movRegReg .e .d
  | movEE => exact h_movRegReg .e .e
  | movEH => exact h_movRegReg .e .h
  | movEL => exact h_movRegReg .e .l
  | movEM => exact h_movRegMem .e
  | movEA => exact h_movRegReg .e .a
  | movHB => exact h_movRegReg .h .b
  | movHC => exact h_movRegReg .h .c
  | movHD => exact h_movRegReg .h .d
  | movHE => exact h_movRegReg .h .e
  | movHH => exact h_movRegReg .h .h
  | movHL => exact h_movRegReg .h .l
  | movHM => exact h_movRegMem .h
  | movHA => exact h_movRegReg .h .a
  | movLB => exact h_movRegReg .l .b
  | movLC => exact h_movRegReg .l .c
  | movLD => exact h_movRegReg .l .d
  | movLE => exact h_movRegReg .l .e
  | movLH => exact h_movRegReg .l .h
  | movLL => exact h_movRegReg .l .l
  | movLM => exact h_movRegMem .l
  | movLA => exact h_movRegReg .l .a
  | movMB => exact h_movMemReg .b
  | movMC => exact h_movMemReg .c
  | movMD => exact h_movMemReg .d
  | movME => exact h_movMemReg .e
  | movMH => exact h_movMemReg .h
  | movML => exact h_movMemReg .l
  | hlt => exact h_hlt
  | movMA => exact h_movMemReg .a
  | movAB => exact h_movRegReg .a .b
  | movAC => exact h_movRegReg .a .c
  | movAD => exact h_movRegReg .a .d
  | movAE => exact h_movRegReg .a .e
  | movAH => exact h_movRegReg .a .h
  | movAL => exact h_movRegReg .a .l
  | movAM => exact h_movRegMem .a
  | movAA => exact h_movRegReg .a .a
  | addB => exact h_aluReg .add .b
  | addC => exact h_aluReg .add .c
  | addD => exact h_aluReg .add .d
  | addE => exact h_aluReg .add .e
  | addH => exact h_aluReg .add .h
  | addL => exact h_aluReg .add .l
  | addM => exact h_aluMem .add
  | addA => exact h_aluReg .add .a
  | adcB => exact h_aluReg .adc .b
  | adcC => exact h_aluReg .adc .c
  | adcD => exact h_aluReg .adc .d
  | adcE => exact h_aluReg .adc .e
  | adcH => exact h_aluReg .adc .h
  | adcL => exact h_aluReg .adc .l
  | adcM => exact h_aluMem .adc
  | adcA => exact h_aluReg .adc .a
  | subB => exact h_aluReg .sub .b
  | subC => exact h_aluReg .sub .c
  | subD => exact h_aluReg .sub .d
  | subE => exact h_aluReg .sub .e
  | subH => exact h_aluReg .sub .h
  | subL => exact h_aluReg .sub .l
  | subM => exact h_aluMem .sub
  | subA => exact h_aluReg .sub .a
  | sbbB => exact h_aluReg .sbb .b
  | sbbC => exact h_aluReg .sbb .c
  | sbbD => exact h_aluReg .sbb .d
  | sbbE => exact h_aluReg .sbb .e
  | sbbH => exact h_aluReg .sbb .h
  | sbbL => exact h_aluReg .sbb .l
  | sbbM => exact h_aluMem .sbb
  | sbbA => exact h_aluReg .sbb .a
  | anaB => exact h_aluReg .ana .b
  | anaC => exact h_aluReg .ana .c
  | anaD => exact h_aluReg .ana .d
  | anaE => exact h_aluReg .ana .e
  | anaH => exact h_aluReg .ana .h
  | anaL => exact h_aluReg .ana .l
  | anaM => exact h_aluMem .ana
  | anaA => exact h_aluReg .ana .a
  | xraB => exact h_aluReg .xra .b
  | xraC => exact h_aluReg .xra .c
  | xraD => exact h_aluReg .xra .d
  | xraE => exact h_aluReg .xra .e
  | xraH => exact h_aluReg .xra .h
  | xraL => exact h_aluReg .xra .l
  | xraM => exact h_aluMem .xra
  | xraA => exact h_aluReg .xra .a
  | oraB => exact h_aluReg .ora .b
  | oraC => exact h_aluReg .ora .c
  | oraD => exact h_aluReg .ora .d
  | oraE => exact h_aluReg .ora .e
  | oraH => exact h_aluReg .ora .h
  | oraL => exact h_aluReg .ora .l
  | oraM => exact h_aluMem .ora
  | oraA => exact h_aluReg .ora .a
  | cmpB => exact h_aluReg .cmp .b
  | cmpC => exact h_aluReg .cmp .c
  | cmpD => exact h_aluReg .cmp .d
  | cmpE => exact h_aluReg .cmp .e
  | cmpH => exact h_aluReg .cmp .h
  | cmpL => exact h_aluReg .cmp .l
  | cmpM => exact h_aluMem .cmp
  | cmpA => exact h_aluReg .cmp .a
  | rnz => exact h_rcond .nz
  | popB => exact h_pop .bc
  | jnz v => exact h_jcond .nz v
  | jmp v => exact h_jmp v
  | cnz v => exact h_ccond .nz v
  | pushB => exact h_push .bc
  | adi v => exact h_aluImm .add v
  | rst0 => exact h_rst 0
  | rz => exact h_rcond .z
  | ret => exact h_ret
  | jz v => exact h_jcond .z v
  | cz v => exact h_ccond .z v
  | call v => exact h_call v
  | aci v => exact h_aluImm .adc v
  | rst1 => exact h_rst 1
  | rnc => exact h_rcond .nc
  | popD => exact h_pop .de
  | jnc v => exact h_jcond .nc v
  | outPort v => exact h_outPort v
  | cnc v => exact h_ccond .nc v
  | pushD => exact h_push .de
  | sui v => exact h_aluImm .sub v
  | rst2 => exact h_rst 2
  | rc => exact h_rcond .c
  | jc v => exact h_jcond .c v
  | inPort v => exact h_inPort v
  | cc v => exact h_ccond .c v
  | sbi v => exact h_aluImm .sbb v
  | rst3 => exact h_rst 3
  | rpo => exact h_rcond .po
  | popH => exact h_pop .hl
  | jpo v => exact h_jcond .po v
  | xthl => exact h_xthl
  | cpo v => exact h_ccond .po v
  | pushH => exact h_push .hl
  | ani v => exact h_aluImm .ana v
  | rst4 => exact h_rst 4
  | rpe => exact h_rcond .pe
  | pchl => exact h_pchl
  | jpe v => exact h_jcond .pe v
  | xchg => exact h_xchg
  | cpe v => exact h_ccond .pe v
  | xri v => exact h_aluImm .xra v
  | rst5 => exact h_rst 5
  | rp => exact h_rcond .p
  | popPsw => exact h_popPsw
  | jp v => exact h_jcond .p v
  | di => exact h_di
  | cp v => exact h_ccond .p v
  | pushPsw => exact h_pushPsw
  | ori v => exact h_aluImm .ora v
  | rst6 => exact h_rst 6
  | rm => exact h_rcond .m
  | sphl => exact h_sphl
  | jm v => exact h_jcond .m v
  | ei => exact h_ei
  | cm v => exact h_ccond .m v
  | cpi v => exact h_aluImm .cmp v
  | rst7 => exact h_rst 7
  | undefined op => exact h_undefined op

end Sys2Proof

namespace Sys2Proof.Machine

/-! ### The F code of each form (R29) -/

/-- The F code of an operation of the accumulator group (R29). -/
theorem flagCode_alu (o : AluOp) (k : AluOperand) :
    flagCode (k.instr o) =
      match o with
      | .ana => .andLike
      | .xra => .orLike
      | .ora => .orLike
      | _ => .all := by
  cases k with
  | reg x => cases o <;> cases x <;> rfl
  | mem => cases o <;> rfl
  | imm v => cases o <;> rfl

@[simp] theorem flagCode_movRegReg (x y : Reg8) : flagCode (Instr.movRegReg x y) = .none := by cases x <;> cases y <;> rfl
@[simp] theorem flagCode_movRegMem (x : Reg8) : flagCode (Instr.movRegMem x) = .none := by cases x <;> rfl
@[simp] theorem flagCode_movMemReg (x : Reg8) : flagCode (Instr.movMemReg x) = .none := by cases x <;> rfl
@[simp] theorem flagCode_mviReg (x : Reg8) (v : Byte) : flagCode (Instr.mviReg x v) = .none := by cases x <;> rfl
@[simp] theorem flagCode_mviM (v : Byte) : flagCode (.mviM v) = .none := rfl
@[simp] theorem flagCode_lxi (p : RegPair) (v : Word) : flagCode (Instr.lxi p v) = .none := by cases p <;> rfl
@[simp] theorem flagCode_lda (a : Word) : flagCode (.lda a) = .none := rfl
@[simp] theorem flagCode_sta (a : Word) : flagCode (.sta a) = .none := rfl
@[simp] theorem flagCode_lhld (a : Word) : flagCode (.lhld a) = .none := rfl
@[simp] theorem flagCode_shld (a : Word) : flagCode (.shld a) = .none := rfl
@[simp] theorem flagCode_ldax (p : IndexPair) : flagCode (Instr.ldax p) = .none := by cases p <;> rfl
@[simp] theorem flagCode_stax (p : IndexPair) : flagCode (Instr.stax p) = .none := by cases p <;> rfl
@[simp] theorem flagCode_xchg : flagCode (.xchg) = .none := rfl
@[simp] theorem flagCode_inrReg (x : Reg8) : flagCode (Instr.inrReg x) = .notCarry := by cases x <;> rfl
@[simp] theorem flagCode_dcrReg (x : Reg8) : flagCode (Instr.dcrReg x) = .notCarry := by cases x <;> rfl
@[simp] theorem flagCode_inrM : flagCode (.inrM) = .notCarry := rfl
@[simp] theorem flagCode_dcrM : flagCode (.dcrM) = .notCarry := rfl
@[simp] theorem flagCode_inx (p : RegPair) : flagCode (Instr.inx p) = .none := by cases p <;> rfl
@[simp] theorem flagCode_dcx (p : RegPair) : flagCode (Instr.dcx p) = .none := by cases p <;> rfl
@[simp] theorem flagCode_dad (p : RegPair) : flagCode (Instr.dad p) = .carry := by cases p <;> rfl
@[simp] theorem flagCode_daa : flagCode (.daa) = .all := rfl
@[simp] theorem flagCode_rlc : flagCode (.rlc) = .carry := rfl
@[simp] theorem flagCode_rrc : flagCode (.rrc) = .carry := rfl
@[simp] theorem flagCode_ral : flagCode (.ral) = .carry := rfl
@[simp] theorem flagCode_rar : flagCode (.rar) = .carry := rfl
@[simp] theorem flagCode_cma : flagCode (.cma) = .none := rfl
@[simp] theorem flagCode_cmc : flagCode (.cmc) = .carry := rfl
@[simp] theorem flagCode_stc : flagCode (.stc) = .carry := rfl
@[simp] theorem flagCode_jmp (a : Word) : flagCode (.jmp a) = .none := rfl
@[simp] theorem flagCode_jcond (k : Cond) (a : Word) : flagCode (Instr.jcond k a) = .none := by cases k <;> rfl
@[simp] theorem flagCode_pchl : flagCode (.pchl) = .none := rfl
@[simp] theorem flagCode_call (a : Word) : flagCode (.call a) = .none := rfl
@[simp] theorem flagCode_ccond (k : Cond) (a : Word) : flagCode (Instr.ccond k a) = .none := by cases k <;> rfl
@[simp] theorem flagCode_ret : flagCode (.ret) = .none := rfl
@[simp] theorem flagCode_rcond (k : Cond) : flagCode (Instr.rcond k) = .none := by cases k <;> rfl
@[simp] theorem flagCode_rst (n : Fin 8) : flagCode (Instr.rst n) = .none := by revert n; decide
@[simp] theorem flagCode_push (p : StackPair) : flagCode (Instr.push p) = .none := by cases p <;> rfl
@[simp] theorem flagCode_pushPsw : flagCode (.pushPsw) = .none := rfl
@[simp] theorem flagCode_pop (p : StackPair) : flagCode (Instr.pop p) = .none := by cases p <;> rfl
@[simp] theorem flagCode_popPsw : flagCode (.popPsw) = .all := rfl
@[simp] theorem flagCode_xthl : flagCode (.xthl) = .none := rfl
@[simp] theorem flagCode_sphl : flagCode (.sphl) = .none := rfl
@[simp] theorem flagCode_inPort (p : Byte) : flagCode (.inPort p) = .none := rfl
@[simp] theorem flagCode_outPort (p : Byte) : flagCode (.outPort p) = .none := rfl
@[simp] theorem flagCode_ei : flagCode (.ei) = .none := rfl
@[simp] theorem flagCode_di : flagCode (.di) = .none := rfl
@[simp] theorem flagCode_hlt : flagCode (.hlt) = .none := rfl
@[simp] theorem flagCode_nop : flagCode (.nop) = .none := rfl
@[simp] theorem flagCode_sim : flagCode (.sim) = .none := rfl
@[simp] theorem flagCode_rim : flagCode (.rim) = .none := rfl
@[simp] theorem flagCode_undefined (op : Byte) : flagCode (.undefined op) = .none := rfl

/-! ### Which forms are control transfers (R26) -/

@[simp] theorem isTransfer_movRegReg (x y : Reg8) : (Instr.movRegReg x y : Instr).isTransfer = false := by cases x <;> cases y <;> rfl
@[simp] theorem isTransfer_movRegMem (x : Reg8) : (Instr.movRegMem x : Instr).isTransfer = false := by cases x <;> rfl
@[simp] theorem isTransfer_movMemReg (x : Reg8) : (Instr.movMemReg x : Instr).isTransfer = false := by cases x <;> rfl
@[simp] theorem isTransfer_mviReg (x : Reg8) (v : Byte) : (Instr.mviReg x v : Instr).isTransfer = false := by cases x <;> rfl
@[simp] theorem isTransfer_mviM (v : Byte) : (.mviM v : Instr).isTransfer = false := rfl
@[simp] theorem isTransfer_lxi (p : RegPair) (v : Word) : (Instr.lxi p v : Instr).isTransfer = false := by cases p <;> rfl
@[simp] theorem isTransfer_lda (a : Word) : (.lda a : Instr).isTransfer = false := rfl
@[simp] theorem isTransfer_sta (a : Word) : (.sta a : Instr).isTransfer = false := rfl
@[simp] theorem isTransfer_lhld (a : Word) : (.lhld a : Instr).isTransfer = false := rfl
@[simp] theorem isTransfer_shld (a : Word) : (.shld a : Instr).isTransfer = false := rfl
@[simp] theorem isTransfer_ldax (p : IndexPair) : (Instr.ldax p : Instr).isTransfer = false := by cases p <;> rfl
@[simp] theorem isTransfer_stax (p : IndexPair) : (Instr.stax p : Instr).isTransfer = false := by cases p <;> rfl
@[simp] theorem isTransfer_xchg : (.xchg : Instr).isTransfer = false := rfl
@[simp] theorem isTransfer_aluReg (o : AluOp) (x : Reg8) : (Instr.aluReg o x : Instr).isTransfer = false := by cases o <;> cases x <;> rfl
@[simp] theorem isTransfer_aluMem (o : AluOp) : (Instr.aluMem o : Instr).isTransfer = false := by cases o <;> rfl
@[simp] theorem isTransfer_aluImm (o : AluOp) (v : Byte) : (Instr.aluImm o v : Instr).isTransfer = false := by cases o <;> rfl
@[simp] theorem isTransfer_inrReg (x : Reg8) : (Instr.inrReg x : Instr).isTransfer = false := by cases x <;> rfl
@[simp] theorem isTransfer_dcrReg (x : Reg8) : (Instr.dcrReg x : Instr).isTransfer = false := by cases x <;> rfl
@[simp] theorem isTransfer_inrM : (.inrM : Instr).isTransfer = false := rfl
@[simp] theorem isTransfer_dcrM : (.dcrM : Instr).isTransfer = false := rfl
@[simp] theorem isTransfer_inx (p : RegPair) : (Instr.inx p : Instr).isTransfer = false := by cases p <;> rfl
@[simp] theorem isTransfer_dcx (p : RegPair) : (Instr.dcx p : Instr).isTransfer = false := by cases p <;> rfl
@[simp] theorem isTransfer_dad (p : RegPair) : (Instr.dad p : Instr).isTransfer = false := by cases p <;> rfl
@[simp] theorem isTransfer_daa : (.daa : Instr).isTransfer = false := rfl
@[simp] theorem isTransfer_rlc : (.rlc : Instr).isTransfer = false := rfl
@[simp] theorem isTransfer_rrc : (.rrc : Instr).isTransfer = false := rfl
@[simp] theorem isTransfer_ral : (.ral : Instr).isTransfer = false := rfl
@[simp] theorem isTransfer_rar : (.rar : Instr).isTransfer = false := rfl
@[simp] theorem isTransfer_cma : (.cma : Instr).isTransfer = false := rfl
@[simp] theorem isTransfer_cmc : (.cmc : Instr).isTransfer = false := rfl
@[simp] theorem isTransfer_stc : (.stc : Instr).isTransfer = false := rfl
@[simp] theorem isTransfer_jmp (a : Word) : (.jmp a : Instr).isTransfer = true := rfl
@[simp] theorem isTransfer_jcond (k : Cond) (a : Word) : (Instr.jcond k a : Instr).isTransfer = true := by cases k <;> rfl
@[simp] theorem isTransfer_pchl : (.pchl : Instr).isTransfer = true := rfl
@[simp] theorem isTransfer_call (a : Word) : (.call a : Instr).isTransfer = true := rfl
@[simp] theorem isTransfer_ccond (k : Cond) (a : Word) : (Instr.ccond k a : Instr).isTransfer = true := by cases k <;> rfl
@[simp] theorem isTransfer_ret : (.ret : Instr).isTransfer = true := rfl
@[simp] theorem isTransfer_rcond (k : Cond) : (Instr.rcond k : Instr).isTransfer = true := by cases k <;> rfl
@[simp] theorem isTransfer_rst (n : Fin 8) : (Instr.rst n : Instr).isTransfer = true := by revert n; decide
@[simp] theorem isTransfer_push (p : StackPair) : (Instr.push p : Instr).isTransfer = false := by cases p <;> rfl
@[simp] theorem isTransfer_pushPsw : (.pushPsw : Instr).isTransfer = false := rfl
@[simp] theorem isTransfer_pop (p : StackPair) : (Instr.pop p : Instr).isTransfer = false := by cases p <;> rfl
@[simp] theorem isTransfer_popPsw : (.popPsw : Instr).isTransfer = false := rfl
@[simp] theorem isTransfer_xthl : (.xthl : Instr).isTransfer = false := rfl
@[simp] theorem isTransfer_sphl : (.sphl : Instr).isTransfer = false := rfl
@[simp] theorem isTransfer_inPort (p : Byte) : (.inPort p : Instr).isTransfer = false := rfl
@[simp] theorem isTransfer_outPort (p : Byte) : (.outPort p : Instr).isTransfer = false := rfl
@[simp] theorem isTransfer_ei : (.ei : Instr).isTransfer = false := rfl
@[simp] theorem isTransfer_di : (.di : Instr).isTransfer = false := rfl
@[simp] theorem isTransfer_hlt : (.hlt : Instr).isTransfer = false := rfl
@[simp] theorem isTransfer_nop : (.nop : Instr).isTransfer = false := rfl
@[simp] theorem isTransfer_sim : (.sim : Instr).isTransfer = false := rfl
@[simp] theorem isTransfer_rim : (.rim : Instr).isTransfer = false := rfl
@[simp] theorem isTransfer_undefined (op : Byte) : (.undefined op : Instr).isTransfer = false := rfl

end Sys2Proof.Machine
end

