-- ==== Sys2Proof/Laws/PerInstr.lean ====
section
/-!
SUPPORT. Statements made of every instruction, one lemma a constructor: an encoding has as many bytes as the map gives
its opcode byte (R71).
-/

namespace Sys2Proof.Laws.EncodeLength

/-- A well-formed instruction's encoding has the length of its first byte's cell. -/
def Statement (i : Instr) : Prop :=
  i.wf = true → (encode i).length = (opcodeEntry ((encode i).headD 0)).length

/-- From the bytes themselves. -/
theorem of_bytes {i : Instr} {op : Byte} {rest : List Byte} (h : encode i = op :: rest)
    (hn : rest.length + 1 = (opcodeEntry op).length) : Statement i := by
  intro _
  rw [h]
  exact hn

theorem nop : Statement .nop := fun _ => rfl
theorem lxiB (v : Word) : Statement (.lxiB v) := of_bytes (op := 0x01#8) rfl rfl
theorem staxB : Statement .staxB := fun _ => rfl
theorem inxB : Statement .inxB := fun _ => rfl
theorem inrB : Statement .inrB := fun _ => rfl
theorem dcrB : Statement .dcrB := fun _ => rfl
theorem mviB (v : Byte) : Statement (.mviB v) := of_bytes (op := 0x06#8) rfl rfl
theorem rlc : Statement .rlc := fun _ => rfl
theorem dadB : Statement .dadB := fun _ => rfl
theorem ldaxB : Statement .ldaxB := fun _ => rfl
theorem dcxB : Statement .dcxB := fun _ => rfl
theorem inrC : Statement .inrC := fun _ => rfl
theorem dcrC : Statement .dcrC := fun _ => rfl
theorem mviC (v : Byte) : Statement (.mviC v) := of_bytes (op := 0x0E#8) rfl rfl
theorem rrc : Statement .rrc := fun _ => rfl
theorem lxiD (v : Word) : Statement (.lxiD v) := of_bytes (op := 0x11#8) rfl rfl
theorem staxD : Statement .staxD := fun _ => rfl
theorem inxD : Statement .inxD := fun _ => rfl
theorem inrD : Statement .inrD := fun _ => rfl
theorem dcrD : Statement .dcrD := fun _ => rfl
theorem mviD (v : Byte) : Statement (.mviD v) := of_bytes (op := 0x16#8) rfl rfl
theorem ral : Statement .ral := fun _ => rfl
theorem dadD : Statement .dadD := fun _ => rfl
theorem ldaxD : Statement .ldaxD := fun _ => rfl
theorem dcxD : Statement .dcxD := fun _ => rfl
theorem inrE : Statement .inrE := fun _ => rfl
theorem dcrE : Statement .dcrE := fun _ => rfl
theorem mviE (v : Byte) : Statement (.mviE v) := of_bytes (op := 0x1E#8) rfl rfl
theorem rar : Statement .rar := fun _ => rfl
theorem rim : Statement .rim := fun _ => rfl
theorem lxiH (v : Word) : Statement (.lxiH v) := of_bytes (op := 0x21#8) rfl rfl
theorem shld (v : Word) : Statement (.shld v) := of_bytes (op := 0x22#8) rfl rfl
theorem inxH : Statement .inxH := fun _ => rfl
theorem inrH : Statement .inrH := fun _ => rfl
theorem dcrH : Statement .dcrH := fun _ => rfl
theorem mviH (v : Byte) : Statement (.mviH v) := of_bytes (op := 0x26#8) rfl rfl
theorem daa : Statement .daa := fun _ => rfl
theorem dadH : Statement .dadH := fun _ => rfl
theorem lhld (v : Word) : Statement (.lhld v) := of_bytes (op := 0x2A#8) rfl rfl
theorem dcxH : Statement .dcxH := fun _ => rfl
theorem inrL : Statement .inrL := fun _ => rfl
theorem dcrL : Statement .dcrL := fun _ => rfl
theorem mviL (v : Byte) : Statement (.mviL v) := of_bytes (op := 0x2E#8) rfl rfl
theorem cma : Statement .cma := fun _ => rfl
theorem sim : Statement .sim := fun _ => rfl
theorem lxiSp (v : Word) : Statement (.lxiSp v) := of_bytes (op := 0x31#8) rfl rfl
theorem sta (v : Word) : Statement (.sta v) := of_bytes (op := 0x32#8) rfl rfl
theorem inxSp : Statement .inxSp := fun _ => rfl
theorem inrM : Statement .inrM := fun _ => rfl
theorem dcrM : Statement .dcrM := fun _ => rfl
theorem mviM (v : Byte) : Statement (.mviM v) := of_bytes (op := 0x36#8) rfl rfl
theorem stc : Statement .stc := fun _ => rfl
theorem dadSp : Statement .dadSp := fun _ => rfl
theorem lda (v : Word) : Statement (.lda v) := of_bytes (op := 0x3A#8) rfl rfl
theorem dcxSp : Statement .dcxSp := fun _ => rfl
theorem inrA : Statement .inrA := fun _ => rfl
theorem dcrA : Statement .dcrA := fun _ => rfl
theorem mviA (v : Byte) : Statement (.mviA v) := of_bytes (op := 0x3E#8) rfl rfl
theorem cmc : Statement .cmc := fun _ => rfl
theorem movBB : Statement .movBB := fun _ => rfl
theorem movBC : Statement .movBC := fun _ => rfl
theorem movBD : Statement .movBD := fun _ => rfl
theorem movBE : Statement .movBE := fun _ => rfl
theorem movBH : Statement .movBH := fun _ => rfl
theorem movBL : Statement .movBL := fun _ => rfl
theorem movBM : Statement .movBM := fun _ => rfl
theorem movBA : Statement .movBA := fun _ => rfl
theorem movCB : Statement .movCB := fun _ => rfl
theorem movCC : Statement .movCC := fun _ => rfl
theorem movCD : Statement .movCD := fun _ => rfl
theorem movCE : Statement .movCE := fun _ => rfl
theorem movCH : Statement .movCH := fun _ => rfl
theorem movCL : Statement .movCL := fun _ => rfl
theorem movCM : Statement .movCM := fun _ => rfl
theorem movCA : Statement .movCA := fun _ => rfl
theorem movDB : Statement .movDB := fun _ => rfl
theorem movDC : Statement .movDC := fun _ => rfl
theorem movDD : Statement .movDD := fun _ => rfl
theorem movDE : Statement .movDE := fun _ => rfl
theorem movDH : Statement .movDH := fun _ => rfl
theorem movDL : Statement .movDL := fun _ => rfl
theorem movDM : Statement .movDM := fun _ => rfl
theorem movDA : Statement .movDA := fun _ => rfl
theorem movEB : Statement .movEB := fun _ => rfl
theorem movEC : Statement .movEC := fun _ => rfl
theorem movED : Statement .movED := fun _ => rfl
theorem movEE : Statement .movEE := fun _ => rfl
theorem movEH : Statement .movEH := fun _ => rfl
theorem movEL : Statement .movEL := fun _ => rfl
theorem movEM : Statement .movEM := fun _ => rfl
theorem movEA : Statement .movEA := fun _ => rfl
theorem movHB : Statement .movHB := fun _ => rfl
theorem movHC : Statement .movHC := fun _ => rfl
theorem movHD : Statement .movHD := fun _ => rfl
theorem movHE : Statement .movHE := fun _ => rfl
theorem movHH : Statement .movHH := fun _ => rfl
theorem movHL : Statement .movHL := fun _ => rfl
theorem movHM : Statement .movHM := fun _ => rfl
theorem movHA : Statement .movHA := fun _ => rfl
theorem movLB : Statement .movLB := fun _ => rfl
theorem movLC : Statement .movLC := fun _ => rfl
theorem movLD : Statement .movLD := fun _ => rfl
theorem movLE : Statement .movLE := fun _ => rfl
theorem movLH : Statement .movLH := fun _ => rfl
theorem movLL : Statement .movLL := fun _ => rfl
theorem movLM : Statement .movLM := fun _ => rfl
theorem movLA : Statement .movLA := fun _ => rfl
theorem movMB : Statement .movMB := fun _ => rfl
theorem movMC : Statement .movMC := fun _ => rfl
theorem movMD : Statement .movMD := fun _ => rfl
theorem movME : Statement .movME := fun _ => rfl
theorem movMH : Statement .movMH := fun _ => rfl
theorem movML : Statement .movML := fun _ => rfl
theorem hlt : Statement .hlt := fun _ => rfl
theorem movMA : Statement .movMA := fun _ => rfl
theorem movAB : Statement .movAB := fun _ => rfl
theorem movAC : Statement .movAC := fun _ => rfl
theorem movAD : Statement .movAD := fun _ => rfl
theorem movAE : Statement .movAE := fun _ => rfl
theorem movAH : Statement .movAH := fun _ => rfl
theorem movAL : Statement .movAL := fun _ => rfl
theorem movAM : Statement .movAM := fun _ => rfl
theorem movAA : Statement .movAA := fun _ => rfl
theorem addB : Statement .addB := fun _ => rfl
theorem addC : Statement .addC := fun _ => rfl
theorem addD : Statement .addD := fun _ => rfl
theorem addE : Statement .addE := fun _ => rfl
theorem addH : Statement .addH := fun _ => rfl
theorem addL : Statement .addL := fun _ => rfl
theorem addM : Statement .addM := fun _ => rfl
theorem addA : Statement .addA := fun _ => rfl
theorem adcB : Statement .adcB := fun _ => rfl
theorem adcC : Statement .adcC := fun _ => rfl
theorem adcD : Statement .adcD := fun _ => rfl
theorem adcE : Statement .adcE := fun _ => rfl
theorem adcH : Statement .adcH := fun _ => rfl
theorem adcL : Statement .adcL := fun _ => rfl
theorem adcM : Statement .adcM := fun _ => rfl
theorem adcA : Statement .adcA := fun _ => rfl
theorem subB : Statement .subB := fun _ => rfl
theorem subC : Statement .subC := fun _ => rfl
theorem subD : Statement .subD := fun _ => rfl
theorem subE : Statement .subE := fun _ => rfl
theorem subH : Statement .subH := fun _ => rfl
theorem subL : Statement .subL := fun _ => rfl
theorem subM : Statement .subM := fun _ => rfl
theorem subA : Statement .subA := fun _ => rfl
theorem sbbB : Statement .sbbB := fun _ => rfl
theorem sbbC : Statement .sbbC := fun _ => rfl
theorem sbbD : Statement .sbbD := fun _ => rfl
theorem sbbE : Statement .sbbE := fun _ => rfl
theorem sbbH : Statement .sbbH := fun _ => rfl
theorem sbbL : Statement .sbbL := fun _ => rfl
theorem sbbM : Statement .sbbM := fun _ => rfl
theorem sbbA : Statement .sbbA := fun _ => rfl
theorem anaB : Statement .anaB := fun _ => rfl
theorem anaC : Statement .anaC := fun _ => rfl
theorem anaD : Statement .anaD := fun _ => rfl
theorem anaE : Statement .anaE := fun _ => rfl
theorem anaH : Statement .anaH := fun _ => rfl
theorem anaL : Statement .anaL := fun _ => rfl
theorem anaM : Statement .anaM := fun _ => rfl
theorem anaA : Statement .anaA := fun _ => rfl
theorem xraB : Statement .xraB := fun _ => rfl
theorem xraC : Statement .xraC := fun _ => rfl
theorem xraD : Statement .xraD := fun _ => rfl
theorem xraE : Statement .xraE := fun _ => rfl
theorem xraH : Statement .xraH := fun _ => rfl
theorem xraL : Statement .xraL := fun _ => rfl
theorem xraM : Statement .xraM := fun _ => rfl
theorem xraA : Statement .xraA := fun _ => rfl
theorem oraB : Statement .oraB := fun _ => rfl
theorem oraC : Statement .oraC := fun _ => rfl
theorem oraD : Statement .oraD := fun _ => rfl
theorem oraE : Statement .oraE := fun _ => rfl
theorem oraH : Statement .oraH := fun _ => rfl
theorem oraL : Statement .oraL := fun _ => rfl
theorem oraM : Statement .oraM := fun _ => rfl
theorem oraA : Statement .oraA := fun _ => rfl
theorem cmpB : Statement .cmpB := fun _ => rfl
theorem cmpC : Statement .cmpC := fun _ => rfl
theorem cmpD : Statement .cmpD := fun _ => rfl
theorem cmpE : Statement .cmpE := fun _ => rfl
theorem cmpH : Statement .cmpH := fun _ => rfl
theorem cmpL : Statement .cmpL := fun _ => rfl
theorem cmpM : Statement .cmpM := fun _ => rfl
theorem cmpA : Statement .cmpA := fun _ => rfl
theorem rnz : Statement .rnz := fun _ => rfl
theorem popB : Statement .popB := fun _ => rfl
theorem jnz (v : Word) : Statement (.jnz v) := of_bytes (op := 0xC2#8) rfl rfl
theorem jmp (v : Word) : Statement (.jmp v) := of_bytes (op := 0xC3#8) rfl rfl
theorem cnz (v : Word) : Statement (.cnz v) := of_bytes (op := 0xC4#8) rfl rfl
theorem pushB : Statement .pushB := fun _ => rfl
theorem adi (v : Byte) : Statement (.adi v) := of_bytes (op := 0xC6#8) rfl rfl
theorem rst0 : Statement .rst0 := fun _ => rfl
theorem rz : Statement .rz := fun _ => rfl
theorem ret : Statement .ret := fun _ => rfl
theorem jz (v : Word) : Statement (.jz v) := of_bytes (op := 0xCA#8) rfl rfl
theorem cz (v : Word) : Statement (.cz v) := of_bytes (op := 0xCC#8) rfl rfl
theorem call (v : Word) : Statement (.call v) := of_bytes (op := 0xCD#8) rfl rfl
theorem aci (v : Byte) : Statement (.aci v) := of_bytes (op := 0xCE#8) rfl rfl
theorem rst1 : Statement .rst1 := fun _ => rfl
theorem rnc : Statement .rnc := fun _ => rfl
theorem popD : Statement .popD := fun _ => rfl
theorem jnc (v : Word) : Statement (.jnc v) := of_bytes (op := 0xD2#8) rfl rfl
theorem outPort (v : Byte) : Statement (.outPort v) := of_bytes (op := 0xD3#8) rfl rfl
theorem cnc (v : Word) : Statement (.cnc v) := of_bytes (op := 0xD4#8) rfl rfl
theorem pushD : Statement .pushD := fun _ => rfl
theorem sui (v : Byte) : Statement (.sui v) := of_bytes (op := 0xD6#8) rfl rfl
theorem rst2 : Statement .rst2 := fun _ => rfl
theorem rc : Statement .rc := fun _ => rfl
theorem jc (v : Word) : Statement (.jc v) := of_bytes (op := 0xDA#8) rfl rfl
theorem inPort (v : Byte) : Statement (.inPort v) := of_bytes (op := 0xDB#8) rfl rfl
theorem cc (v : Word) : Statement (.cc v) := of_bytes (op := 0xDC#8) rfl rfl
theorem sbi (v : Byte) : Statement (.sbi v) := of_bytes (op := 0xDE#8) rfl rfl
theorem rst3 : Statement .rst3 := fun _ => rfl
theorem rpo : Statement .rpo := fun _ => rfl
theorem popH : Statement .popH := fun _ => rfl
theorem jpo (v : Word) : Statement (.jpo v) := of_bytes (op := 0xE2#8) rfl rfl
theorem xthl : Statement .xthl := fun _ => rfl
theorem cpo (v : Word) : Statement (.cpo v) := of_bytes (op := 0xE4#8) rfl rfl
theorem pushH : Statement .pushH := fun _ => rfl
theorem ani (v : Byte) : Statement (.ani v) := of_bytes (op := 0xE6#8) rfl rfl
theorem rst4 : Statement .rst4 := fun _ => rfl
theorem rpe : Statement .rpe := fun _ => rfl
theorem pchl : Statement .pchl := fun _ => rfl
theorem jpe (v : Word) : Statement (.jpe v) := of_bytes (op := 0xEA#8) rfl rfl
theorem xchg : Statement .xchg := fun _ => rfl
theorem cpe (v : Word) : Statement (.cpe v) := of_bytes (op := 0xEC#8) rfl rfl
theorem xri (v : Byte) : Statement (.xri v) := of_bytes (op := 0xEE#8) rfl rfl
theorem rst5 : Statement .rst5 := fun _ => rfl
theorem rp : Statement .rp := fun _ => rfl
theorem popPsw : Statement .popPsw := fun _ => rfl
theorem jp (v : Word) : Statement (.jp v) := of_bytes (op := 0xF2#8) rfl rfl
theorem di : Statement .di := fun _ => rfl
theorem cp (v : Word) : Statement (.cp v) := of_bytes (op := 0xF4#8) rfl rfl
theorem pushPsw : Statement .pushPsw := fun _ => rfl
theorem ori (v : Byte) : Statement (.ori v) := of_bytes (op := 0xF6#8) rfl rfl
theorem rst6 : Statement .rst6 := fun _ => rfl
theorem rm : Statement .rm := fun _ => rfl
theorem sphl : Statement .sphl := fun _ => rfl
theorem jm (v : Word) : Statement (.jm v) := of_bytes (op := 0xFA#8) rfl rfl
theorem ei : Statement .ei := fun _ => rfl
theorem cm (v : Word) : Statement (.cm v) := of_bytes (op := 0xFC#8) rfl rfl
theorem cpi (v : Byte) : Statement (.cpi v) := of_bytes (op := 0xFE#8) rfl rfl
theorem rst7 : Statement .rst7 := fun _ => rfl
theorem undefined (op : Byte) : Statement (.undefined op) := by
  intro h
  have h : op ∈ undefinedBytes := by simpa [Instr.wf] using h
  simp only [undefinedBytes, List.mem_cons, List.not_mem_nil, or_false] at h
  rcases h with rfl | rfl | rfl | rfl | rfl | rfl | rfl | rfl | rfl | rfl <;> rfl

end Sys2Proof.Laws.EncodeLength
end

