-- ==== Sys2Proof/Tests/Slice0.lean ====
section
/-!
SUPPORT. The model's own tests: the check of WellFormed, every opcode byte's decoding with its bits written out, one
step of each form of instruction with the values of the spec's own vectors (spec/95_test_vectors.md, and the Example lines of the
rules), and for every statement with hypotheses a witness that meets them.
-/

namespace Sys2Proof.Tests

set_option Elab.async false

open Sys2Proof.Machine

/-! ### WellFormed -/

theorem test_wf_refuses_a_defined_byte : (Instr.undefined 0x00#8).wf = false := by decide
theorem test_wf_refuses_rim_byte : (Instr.undefined 0x20#8).wf = false := by decide
theorem test_wf_takes_an_empty_byte : (Instr.undefined 0xED#8).wf = true := by decide

/-! ### Decoding: each row of the opcode map, byte by byte in binary, the operand bytes 34h, 12h -/

theorem test_decode_row_0x :
    [0b00000000#8, 0b00000001#8, 0b00000010#8, 0b00000011#8, 0b00000100#8, 0b00000101#8, 0b00000110#8,
      0b00000111#8, 0b00001000#8, 0b00001001#8, 0b00001010#8, 0b00001011#8, 0b00001100#8, 0b00001101#8,
      0b00001110#8, 0b00001111#8].map
        (fun op => decodeAt op 0x34#8 0x12#8) =
      [.nop, .lxiB 0x1234#16, .staxB, .inxB, .inrB, .dcrB, .mviB 0x34#8, .rlc, .undefined 0x08#8, .dadB, .ldaxB,
       .dcxB, .inrC, .dcrC, .mviC 0x34#8, .rrc] := by
  decide +kernel

theorem test_decode_row_1x :
    [0b00010000#8, 0b00010001#8, 0b00010010#8, 0b00010011#8, 0b00010100#8, 0b00010101#8, 0b00010110#8,
      0b00010111#8, 0b00011000#8, 0b00011001#8, 0b00011010#8, 0b00011011#8, 0b00011100#8, 0b00011101#8,
      0b00011110#8, 0b00011111#8].map
        (fun op => decodeAt op 0x34#8 0x12#8) =
      [.undefined 0x10#8, .lxiD 0x1234#16, .staxD, .inxD, .inrD, .dcrD, .mviD 0x34#8, .ral, .undefined 0x18#8,
       .dadD, .ldaxD, .dcxD, .inrE, .dcrE, .mviE 0x34#8, .rar] := by
  decide +kernel

theorem test_decode_row_2x :
    [0b00100000#8, 0b00100001#8, 0b00100010#8, 0b00100011#8, 0b00100100#8, 0b00100101#8, 0b00100110#8,
      0b00100111#8, 0b00101000#8, 0b00101001#8, 0b00101010#8, 0b00101011#8, 0b00101100#8, 0b00101101#8,
      0b00101110#8, 0b00101111#8].map
        (fun op => decodeAt op 0x34#8 0x12#8) =
      [.rim, .lxiH 0x1234#16, .shld 0x1234#16, .inxH, .inrH, .dcrH, .mviH 0x34#8, .daa, .undefined 0x28#8, .dadH,
       .lhld 0x1234#16, .dcxH, .inrL, .dcrL, .mviL 0x34#8, .cma] := by
  decide +kernel

theorem test_decode_row_3x :
    [0b00110000#8, 0b00110001#8, 0b00110010#8, 0b00110011#8, 0b00110100#8, 0b00110101#8, 0b00110110#8,
      0b00110111#8, 0b00111000#8, 0b00111001#8, 0b00111010#8, 0b00111011#8, 0b00111100#8, 0b00111101#8,
      0b00111110#8, 0b00111111#8].map
        (fun op => decodeAt op 0x34#8 0x12#8) =
      [.sim, .lxiSp 0x1234#16, .sta 0x1234#16, .inxSp, .inrM, .dcrM, .mviM 0x34#8, .stc, .undefined 0x38#8, .dadSp,
       .lda 0x1234#16, .dcxSp, .inrA, .dcrA, .mviA 0x34#8, .cmc] := by
  decide +kernel

theorem test_decode_row_4x :
    [0b01000000#8, 0b01000001#8, 0b01000010#8, 0b01000011#8, 0b01000100#8, 0b01000101#8, 0b01000110#8,
      0b01000111#8, 0b01001000#8, 0b01001001#8, 0b01001010#8, 0b01001011#8, 0b01001100#8, 0b01001101#8,
      0b01001110#8, 0b01001111#8].map
        (fun op => decodeAt op 0x34#8 0x12#8) =
      [.movBB, .movBC, .movBD, .movBE, .movBH, .movBL, .movBM, .movBA, .movCB, .movCC, .movCD, .movCE, .movCH,
       .movCL, .movCM, .movCA] := by
  decide +kernel

theorem test_decode_row_5x :
    [0b01010000#8, 0b01010001#8, 0b01010010#8, 0b01010011#8, 0b01010100#8, 0b01010101#8, 0b01010110#8,
      0b01010111#8, 0b01011000#8, 0b01011001#8, 0b01011010#8, 0b01011011#8, 0b01011100#8, 0b01011101#8,
      0b01011110#8, 0b01011111#8].map
        (fun op => decodeAt op 0x34#8 0x12#8) =
      [.movDB, .movDC, .movDD, .movDE, .movDH, .movDL, .movDM, .movDA, .movEB, .movEC, .movED, .movEE, .movEH,
       .movEL, .movEM, .movEA] := by
  decide +kernel

theorem test_decode_row_6x :
    [0b01100000#8, 0b01100001#8, 0b01100010#8, 0b01100011#8, 0b01100100#8, 0b01100101#8, 0b01100110#8,
      0b01100111#8, 0b01101000#8, 0b01101001#8, 0b01101010#8, 0b01101011#8, 0b01101100#8, 0b01101101#8,
      0b01101110#8, 0b01101111#8].map
        (fun op => decodeAt op 0x34#8 0x12#8) =
      [.movHB, .movHC, .movHD, .movHE, .movHH, .movHL, .movHM, .movHA, .movLB, .movLC, .movLD, .movLE, .movLH,
       .movLL, .movLM, .movLA] := by
  decide +kernel

theorem test_decode_row_7x :
    [0b01110000#8, 0b01110001#8, 0b01110010#8, 0b01110011#8, 0b01110100#8, 0b01110101#8, 0b01110110#8,
      0b01110111#8, 0b01111000#8, 0b01111001#8, 0b01111010#8, 0b01111011#8, 0b01111100#8, 0b01111101#8,
      0b01111110#8, 0b01111111#8].map
        (fun op => decodeAt op 0x34#8 0x12#8) =
      [.movMB, .movMC, .movMD, .movME, .movMH, .movML, .hlt, .movMA, .movAB, .movAC, .movAD, .movAE, .movAH,
       .movAL, .movAM, .movAA] := by
  decide +kernel

theorem test_decode_row_8x :
    [0b10000000#8, 0b10000001#8, 0b10000010#8, 0b10000011#8, 0b10000100#8, 0b10000101#8, 0b10000110#8,
      0b10000111#8, 0b10001000#8, 0b10001001#8, 0b10001010#8, 0b10001011#8, 0b10001100#8, 0b10001101#8,
      0b10001110#8, 0b10001111#8].map
        (fun op => decodeAt op 0x34#8 0x12#8) =
      [.addB, .addC, .addD, .addE, .addH, .addL, .addM, .addA, .adcB, .adcC, .adcD, .adcE, .adcH, .adcL, .adcM,
       .adcA] := by
  decide +kernel

theorem test_decode_row_9x :
    [0b10010000#8, 0b10010001#8, 0b10010010#8, 0b10010011#8, 0b10010100#8, 0b10010101#8, 0b10010110#8,
      0b10010111#8, 0b10011000#8, 0b10011001#8, 0b10011010#8, 0b10011011#8, 0b10011100#8, 0b10011101#8,
      0b10011110#8, 0b10011111#8].map
        (fun op => decodeAt op 0x34#8 0x12#8) =
      [.subB, .subC, .subD, .subE, .subH, .subL, .subM, .subA, .sbbB, .sbbC, .sbbD, .sbbE, .sbbH, .sbbL, .sbbM,
       .sbbA] := by
  decide +kernel

theorem test_decode_row_Ax :
    [0b10100000#8, 0b10100001#8, 0b10100010#8, 0b10100011#8, 0b10100100#8, 0b10100101#8, 0b10100110#8,
      0b10100111#8, 0b10101000#8, 0b10101001#8, 0b10101010#8, 0b10101011#8, 0b10101100#8, 0b10101101#8,
      0b10101110#8, 0b10101111#8].map
        (fun op => decodeAt op 0x34#8 0x12#8) =
      [.anaB, .anaC, .anaD, .anaE, .anaH, .anaL, .anaM, .anaA, .xraB, .xraC, .xraD, .xraE, .xraH, .xraL, .xraM,
       .xraA] := by
  decide +kernel

theorem test_decode_row_Bx :
    [0b10110000#8, 0b10110001#8, 0b10110010#8, 0b10110011#8, 0b10110100#8, 0b10110101#8, 0b10110110#8,
      0b10110111#8, 0b10111000#8, 0b10111001#8, 0b10111010#8, 0b10111011#8, 0b10111100#8, 0b10111101#8,
      0b10111110#8, 0b10111111#8].map
        (fun op => decodeAt op 0x34#8 0x12#8) =
      [.oraB, .oraC, .oraD, .oraE, .oraH, .oraL, .oraM, .oraA, .cmpB, .cmpC, .cmpD, .cmpE, .cmpH, .cmpL, .cmpM,
       .cmpA] := by
  decide +kernel

theorem test_decode_row_Cx :
    [0b11000000#8, 0b11000001#8, 0b11000010#8, 0b11000011#8, 0b11000100#8, 0b11000101#8, 0b11000110#8,
      0b11000111#8, 0b11001000#8, 0b11001001#8, 0b11001010#8, 0b11001011#8, 0b11001100#8, 0b11001101#8,
      0b11001110#8, 0b11001111#8].map
        (fun op => decodeAt op 0x34#8 0x12#8) =
      [.rnz, .popB, .jnz 0x1234#16, .jmp 0x1234#16, .cnz 0x1234#16, .pushB, .adi 0x34#8, .rst0, .rz, .ret,
       .jz 0x1234#16, .undefined 0xCB#8, .cz 0x1234#16, .call 0x1234#16, .aci 0x34#8, .rst1] := by
  decide +kernel

theorem test_decode_row_Dx :
    [0b11010000#8, 0b11010001#8, 0b11010010#8, 0b11010011#8, 0b11010100#8, 0b11010101#8, 0b11010110#8,
      0b11010111#8, 0b11011000#8, 0b11011001#8, 0b11011010#8, 0b11011011#8, 0b11011100#8, 0b11011101#8,
      0b11011110#8, 0b11011111#8].map
        (fun op => decodeAt op 0x34#8 0x12#8) =
      [.rnc, .popD, .jnc 0x1234#16, .outPort 0x34#8, .cnc 0x1234#16, .pushD, .sui 0x34#8, .rst2, .rc,
       .undefined 0xD9#8, .jc 0x1234#16, .inPort 0x34#8, .cc 0x1234#16, .undefined 0xDD#8, .sbi 0x34#8, .rst3] := by
  decide +kernel

theorem test_decode_row_Ex :
    [0b11100000#8, 0b11100001#8, 0b11100010#8, 0b11100011#8, 0b11100100#8, 0b11100101#8, 0b11100110#8,
      0b11100111#8, 0b11101000#8, 0b11101001#8, 0b11101010#8, 0b11101011#8, 0b11101100#8, 0b11101101#8,
      0b11101110#8, 0b11101111#8].map
        (fun op => decodeAt op 0x34#8 0x12#8) =
      [.rpo, .popH, .jpo 0x1234#16, .xthl, .cpo 0x1234#16, .pushH, .ani 0x34#8, .rst4, .rpe, .pchl, .jpe 0x1234#16,
       .xchg, .cpe 0x1234#16, .undefined 0xED#8, .xri 0x34#8, .rst5] := by
  decide +kernel

theorem test_decode_row_Fx :
    [0b11110000#8, 0b11110001#8, 0b11110010#8, 0b11110011#8, 0b11110100#8, 0b11110101#8, 0b11110110#8,
      0b11110111#8, 0b11111000#8, 0b11111001#8, 0b11111010#8, 0b11111011#8, 0b11111100#8, 0b11111101#8,
      0b11111110#8, 0b11111111#8].map
        (fun op => decodeAt op 0x34#8 0x12#8) =
      [.rp, .popPsw, .jp 0x1234#16, .di, .cp 0x1234#16, .pushPsw, .ori 0x34#8, .rst6, .rm, .sphl, .jm 0x1234#16,
       .ei, .cm 0x1234#16, .undefined 0xFD#8, .cpi 0x34#8, .rst7] := by
  decide +kernel

theorem test_decode_rest : decode [0x3A#8, 0x00#8, 0x03#8, 0x7E#8] = .ok (.lda 0x0300#16, [0x7E#8]) := by decide +kernel
theorem test_decode_no_bytes : decode [] = .error .noBytes := by decide +kernel
theorem test_decode_truncated : decode [0xC3#8, 0x00#8] = .error (.truncated 0xC3#8) := by decide +kernel
theorem test_table_word : decodeTableWord 24 0x1234CD = some (.call 0x1234#16) := by decide +kernel
theorem test_table_word_short : decodeTableWord 8 0x21 = some (.lxiH 0x0000#16) := by decide +kernel
theorem test_fetch_word :
    (match step (State.reset.withFetchWord 16 0x5A3E) with
      | .next t => (t.regs.a, t.pc)
      | .fault _ => (0, 0)
      | .refused _ => (0, 0)) = (0x5A#8, 0x0002#16) := by
  decide +kernel

/-! ### One step of each form, from the baseline of spec/95_test_vectors.md -/

/-- The baseline: PC = 0100h, SP = 2400h, registers and flags 0, interrupts disabled. -/
def base : State := { State.reset with pc := 0x0100#16, sp := 0x2400#16 }

/-- The state with these cells written. -/
def cells (l : List (Nat × Byte)) (s : State) : State :=
  { s with mem := l.foldl (fun m cell => Memory.write m cell.1 cell.2) s.mem }

/-- One step with these bytes placed at PC. -/
def ran (bs : List Byte) (s : State) : State := stepState (s.placeBytes s.pc bs)

/-- A, the byte F and PC. -/
def afp (s : State) : Byte × Byte × Word := (s.regs.a, s.flags.toByte, s.pc)

/-- V1, R101. -/
theorem test_mov_reg :
    let t := ran [0x41#8] { base with regs := ⟨0x00, 0x11, 0x22, 0x00, 0x00, 0x00, 0x00⟩ }
    t.regs.b = 0x22#8 ∧ t.regs.c = 0x22#8 ∧ t.pc = 0x0101#16 := by
  decide +kernel

/-- V5, R102: the address is formed from the old H. -/
theorem test_mov_h_m :
    let t := ran [0x66#8] (cells [(0x2000, 0x9C#8)] { base with regs := ⟨0x00, 0x00, 0x00, 0x00, 0x00, 0x20, 0x00⟩ })
    t.regs.h = 0x9C#8 ∧ t.regs.l = 0x00#8 := by
  decide +kernel

/-- V8, R103: the highest address. -/
theorem test_mov_m_l :
    let t := ran [0x75#8] { base with regs := ⟨0x00, 0x00, 0x00, 0x00, 0x00, 0xFF, 0xFF⟩ }
    t.readByte 0xFFFF#16 = 0xFF#8 ∧ t.pc = 0x0101#16 := by
  decide +kernel

/-- V9, R104. -/
theorem test_mvi :
    let t := ran [0x26#8, 0x3C#8] base
    t.regs.h = 0x3C#8 ∧ t.pc = 0x0102#16 := by
  decide +kernel

/-- V11, R105. -/
theorem test_mvi_m :
    let t := ran [0x36#8, 0xFF#8] { base with regs := ⟨0x00, 0x00, 0x00, 0x00, 0x00, 0x3C, 0xF4⟩ }
    t.readByte 0x3CF4#16 = 0xFF#8 ∧ t.pc = 0x0102#16 := by
  decide +kernel

/-- V16, R106: the bytes lie at FFFEh, FFFFh, 0000h. -/
theorem test_lxi_wraps :
    let t := ran [0x21#8, 0x55#8, 0xAA#8] { base with pc := 0xFFFE#16 }
    t.regs.h = 0xAA#8 ∧ t.regs.l = 0x55#8 ∧ t.pc = 0x0001#16 := by
  decide +kernel

/-- V17, R107. -/
theorem test_lda :
    let t := ran [0x3A#8, 0x00#8, 0x03#8] (cells [(0x0300, 0x7E#8)] base)
    t.regs.a = 0x7E#8 ∧ t.pc = 0x0103#16 := by
  decide +kernel

/-- V18, R108. -/
theorem test_sta :
    let t := ran [0x32#8, 0xB3#8, 0x05#8] { base with regs := ⟨0x99, 0x00, 0x00, 0x00, 0x00, 0x00, 0x00⟩ }
    t.readByte 0x05B3#16 = 0x99#8 ∧ t.pc = 0x0103#16 := by
  decide +kernel

/-- V20, R109: addr + 1 wraps to 0000h. -/
theorem test_lhld_wraps :
    let t := ran [0x2A#8, 0xFF#8, 0xFF#8] (cells [(0x0000, 0x22#8), (0xFFFF, 0x11#8)] base)
    t.regs.h = 0x22#8 ∧ t.regs.l = 0x11#8 := by
  decide +kernel

/-- V22, R110: H goes to 0000h. -/
theorem test_shld_wraps :
    let t := ran [0x22#8, 0xFF#8, 0xFF#8] { base with regs := ⟨0x00, 0x00, 0x00, 0x00, 0x00, 0xAE, 0x29⟩ }
    t.readByte 0xFFFF#16 = 0x29#8 ∧ t.readByte 0x0000#16 = 0xAE#8 := by
  decide +kernel

/-- V24, R111. -/
theorem test_ldax_d :
    (ran [0x1A#8] (cells [(0x938B, 0x5D#8)] { base with regs := ⟨0x00, 0x00, 0x00, 0x93, 0x8B, 0x00, 0x00⟩ })).regs.a = 0x5D#8 := by
  decide +kernel

/-- V25, R112. -/
theorem test_stax_b :
    (ran [0x02#8] { base with regs := ⟨0x7A, 0x3F, 0x16, 0x00, 0x00, 0x00, 0x00⟩ }).readByte 0x3F16#16 = 0x7A#8 := by
  decide +kernel

/-- V27, R113. -/
theorem test_xchg :
    let t := ran [0xEB#8] { base with regs := ⟨0x00, 0x00, 0x00, 0x33, 0x55, 0x00, 0xFF⟩ }
    t.de = 0x00FF#16 ∧ t.hl = 0x3355#16 := by
  decide +kernel

/-- V29, R122. -/
theorem test_add :
    afp (ran [0x82#8] { base with regs := ⟨0x6C, 0x00, 0x00, 0x2E, 0x00, 0x00, 0x00⟩ }) = (0x9A#8, 0x96#8, 0x0101#16) := by
  decide +kernel

/-- R124, Example. -/
theorem test_add_m :
    afp (ran [0x86#8] (cells [(0x2000, 0x01#8)] { base with regs := ⟨0xFF, 0x00, 0x00, 0x00, 0x00, 0x20, 0x00⟩ })) = (0x00#8, 0x57#8, 0x0101#16) := by
  decide +kernel

/-- R123, Example. -/
theorem test_adi :
    afp (ran [0xC6#8, 0x42#8] { base with regs := ⟨0x14, 0x00, 0x00, 0x00, 0x00, 0x00, 0x00⟩ }) = (0x56#8, 0x06#8, 0x0102#16) := by
  decide +kernel

/-- R127, Example. -/
theorem test_aci :
    afp (ran [0xCE#8, 0xBE#8] { base with regs := ⟨0x56, 0x00, 0x00, 0x00, 0x00, 0x00, 0x00⟩ }) = (0x14#8, 0x17#8, 0x0102#16) := by
  decide +kernel

/-- R128, Example. -/
theorem test_sub :
    afp (ran [0x90#8] { base with regs := ⟨0x00, 0x01, 0x00, 0x00, 0x00, 0x00, 0x00⟩ }) = (0xFF#8, 0x87#8, 0x0101#16) := by
  decide +kernel

/-- R130, Example. -/
theorem test_sub_m :
    afp (ran [0x96#8] (cells [(0x2000, 0x20#8)] { base with regs := ⟨0x50, 0x00, 0x00, 0x00, 0x00, 0x20, 0x00⟩ })) = (0x30#8, 0x16#8, 0x0101#16) := by
  decide +kernel

/-- R131, Example. -/
theorem test_sbb :
    afp (ran [0x98#8] { base with regs := ⟨0x00, 0xFF, 0x00, 0x00, 0x00, 0x00, 0x00⟩, flags := Flags.ofByte 0x03#8 }) = (0x00#8, 0x47#8, 0x0101#16) := by
  decide +kernel

/-- R132, Example. -/
theorem test_sbi :
    afp (ran [0xDE#8, 0x01#8] { base with flags := Flags.ofByte 0x03#8 }) = (0xFE#8, 0x83#8, 0x0102#16) := by
  decide +kernel

/-- R133, Example. -/
theorem test_sbb_m :
    afp (ran [0x9E#8] (cells [(0x2000, 0x0F#8)] { base with regs := ⟨0x10, 0x00, 0x00, 0x00, 0x00, 0x20, 0x00⟩, flags := Flags.ofByte 0x03#8 })) = (0x00#8, 0x46#8, 0x0101#16) := by
  decide +kernel

/-- R134, Example. -/
theorem test_inr :
    let t := ran [0x0C#8] { base with regs := ⟨0x00, 0x00, 0x99, 0x00, 0x00, 0x00, 0x00⟩, flags := Flags.ofByte 0x03#8 }
    t.regs.c = 0x9A#8 ∧ t.flags.toByte = 0x87#8 := by
  decide +kernel

/-- R135, Example. -/
theorem test_inr_m :
    let t := ran [0x34#8] (cells [(0x2000, 0xFF#8)] { base with regs := ⟨0x00, 0x00, 0x00, 0x00, 0x00, 0x20, 0x00⟩, flags := Flags.ofByte 0x03#8 })
    t.readByte 0x2000#16 = 0x00#8 ∧ t.flags.toByte = 0x57#8 := by
  decide +kernel

/-- R136, Example. -/
theorem test_dcr :
    let t := ran [0x05#8] { base with regs := ⟨0x00, 0x00, 0x00, 0x00, 0x00, 0x00, 0x00⟩, flags := Flags.ofByte 0x02#8 }
    t.regs.b = 0xFF#8 ∧ t.flags.toByte = 0x86#8 := by
  decide +kernel

/-- R137, Example. -/
theorem test_dcr_m :
    let t := ran [0x35#8] (cells [(0x3A7C, 0x40#8)] { base with regs := ⟨0x00, 0x00, 0x00, 0x00, 0x00, 0x3A, 0x7C⟩ })
    t.readByte 0x3A7C#16 = 0x3F#8 ∧ t.flags.toByte = 0x06#8 := by
  decide +kernel

/-- R138, Example. -/
theorem test_inx :
    let t := ran [0x13#8] { base with regs := ⟨0x00, 0x00, 0x00, 0x38, 0xFF, 0x00, 0x00⟩ }
    t.de = 0x3900#16 ∧ t.flags.toByte = 0x02#8 := by
  decide +kernel

/-- R139, Example. -/
theorem test_dcx :
    (ran [0x2B#8] { base with regs := ⟨0x00, 0x00, 0x00, 0x00, 0x00, 0x98, 0x00⟩ }).hl = 0x97FF#16 := by
  decide +kernel

/-- R140, Example. -/
theorem test_dad :
    let t := ran [0x09#8] { base with regs := ⟨0x00, 0x33, 0x9F, 0x00, 0x00, 0xA1, 0x7B⟩ }
    t.hl = 0xD51A#16 ∧ t.flags.toByte = 0x02#8 := by
  decide +kernel

/-- R140, Example. -/
theorem test_dad_carry :
    let t := ran [0x29#8] { base with regs := ⟨0x00, 0x00, 0x00, 0x00, 0x00, 0x80, 0x01⟩ }
    t.hl = 0x0002#16 ∧ t.flags.toByte = 0x03#8 := by
  decide +kernel

/-- R147, Example. -/
theorem test_daa :
    afp (ran [0x27#8] { base with regs := ⟨0x9B, 0x00, 0x00, 0x00, 0x00, 0x00, 0x00⟩ }) = (0x01#8, 0x13#8, 0x0101#16) := by
  decide +kernel

/-- R147, table. -/
theorem test_daa_both :
    afp (ran [0x27#8] { base with regs := ⟨0x88, 0x00, 0x00, 0x00, 0x00, 0x00, 0x00⟩, flags := Flags.ofByte 0x13#8 }) = (0xEE#8, 0x87#8, 0x0101#16) := by
  decide +kernel

/-- R152, Example, 8085A. -/
theorem test_ana_8085 :
    afp (ran [0xA7#8] { base with regs := ⟨0x00, 0x00, 0x00, 0x00, 0x00, 0x00, 0x00⟩, flags := Flags.ofByte 0x03#8 }) = (0x00#8, 0x56#8, 0x0101#16) := by
  decide +kernel

/-- R152, Example, 8080. -/
theorem test_ana_8080 :
    afp (ran [0xA7#8] { base with regs := ⟨0x00, 0x00, 0x00, 0x00, 0x00, 0x00, 0x00⟩, flags := Flags.ofByte 0x03#8, variant := .i8080 }) = (0x00#8, 0x46#8, 0x0101#16) := by
  decide +kernel

/-- R153, Example, 8080. -/
theorem test_ani_8080 :
    afp (ran [0xE6#8, 0xF7#8] { base with regs := ⟨0xF7, 0x00, 0x00, 0x00, 0x00, 0x00, 0x00⟩, variant := .i8080 }) = (0xF7#8, 0x82#8, 0x0102#16) := by
  decide +kernel

/-- R157, Example. -/
theorem test_xra_m :
    afp (ran [0xAE#8] (cells [(0x2000, 0x78#8)] { base with regs := ⟨0x5C, 0x00, 0x00, 0x00, 0x00, 0x20, 0x00⟩, flags := Flags.ofByte 0x13#8 })) = (0x24#8, 0x06#8, 0x0101#16) := by
  decide +kernel

/-- R158, Example. -/
theorem test_ora :
    afp (ran [0xB1#8] { base with regs := ⟨0x33, 0x00, 0x0F, 0x00, 0x00, 0x00, 0x00⟩, flags := Flags.ofByte 0x13#8 }) = (0x3F#8, 0x06#8, 0x0101#16) := by
  decide +kernel

/-- R161, Example. -/
theorem test_cmp :
    afp (ran [0xBB#8] { base with regs := ⟨0x02, 0x00, 0x00, 0x00, 0x05, 0x00, 0x00⟩ }) = (0x02#8, 0x83#8, 0x0101#16) := by
  decide +kernel

/-- R162, Example. -/
theorem test_cpi :
    afp (ran [0xFE#8, 0x80#8] { base with regs := ⟨0x00, 0x00, 0x00, 0x00, 0x00, 0x00, 0x00⟩ }) = (0x00#8, 0x93#8, 0x0102#16) := by
  decide +kernel

/-- R168, Example. -/
theorem test_rlc :
    afp (ran [0x07#8] { base with regs := ⟨0xF2, 0x00, 0x00, 0x00, 0x00, 0x00, 0x00⟩ }) = (0xE5#8, 0x03#8, 0x0101#16) := by
  decide +kernel

/-- R169, Example. -/
theorem test_rrc :
    afp (ran [0x0F#8] { base with regs := ⟨0xF2, 0x00, 0x00, 0x00, 0x00, 0x00, 0x00⟩, flags := Flags.ofByte 0x03#8 }) = (0x79#8, 0x02#8, 0x0101#16) := by
  decide +kernel

/-- R170, Example. -/
theorem test_ral :
    afp (ran [0x17#8] { base with regs := ⟨0xB5, 0x00, 0x00, 0x00, 0x00, 0x00, 0x00⟩ }) = (0x6A#8, 0x03#8, 0x0101#16) := by
  decide +kernel

/-- R171, Example. -/
theorem test_rar :
    afp (ran [0x1F#8] { base with regs := ⟨0x6A, 0x00, 0x00, 0x00, 0x00, 0x00, 0x00⟩, flags := Flags.ofByte 0x03#8 }) = (0xB5#8, 0x02#8, 0x0101#16) := by
  decide +kernel

/-- R172, Example. -/
theorem test_cma :
    afp (ran [0x2F#8] { base with regs := ⟨0x51, 0x00, 0x00, 0x00, 0x00, 0x00, 0x00⟩, flags := Flags.ofByte 0x43#8 }) = (0xAE#8, 0x43#8, 0x0101#16) := by
  decide +kernel

/-- R173, Example. -/
theorem test_cmc :
    afp (ran [0x3F#8] { base with flags := Flags.ofByte 0x03#8 }) = (0x00#8, 0x02#8, 0x0101#16) := by
  decide +kernel

/-- R174, Example. -/
theorem test_stc :
    afp (ran [0x37#8] base) = (0x00#8, 0x03#8, 0x0101#16) := by
  decide +kernel

/-- R184, Example. -/
theorem test_jmp :
    (ran [0xC3#8, 0x00#8, 0x20#8] base).pc = 0x2000#16 := by
  decide +kernel

/-- R192, Example. -/
theorem test_jm_taken :
    (ran [0xFA#8, 0x34#8, 0x12#8] { base with flags := Flags.ofByte 0x82#8 }).pc = 0x1234#16 := by
  decide +kernel

/-- R189: P = 1. -/
theorem test_jpo_not_taken :
    (ran [0xE2#8, 0x34#8, 0x12#8] { base with flags := Flags.ofByte 0x06#8 }).pc = 0x0103#16 := by
  decide +kernel

/-- R193, Example. -/
theorem test_pchl :
    (ran [0xE9#8] { base with regs := ⟨0x00, 0x00, 0x00, 0x00, 0x00, 0x41, 0x3E⟩ }).pc = 0x413E#16 := by
  decide +kernel

/-- R194, Example. -/
theorem test_call_wraps :
    let t := ran [0xCD#8, 0x00#8, 0x30#8] { base with sp := 0x0001#16 }
    t.readByte 0x0000#16 = 0x01#8 ∧ t.readByte 0xFFFF#16 = 0x03#8 ∧ t.sp = 0xFFFF#16 ∧ t.pc = 0x3000#16 := by
  decide +kernel

/-- R201, Example. -/
theorem test_cp_taken :
    let t := ran [0xF4#8, 0x50#8, 0x20#8] base
    t.readByte 0x23FF#16 = 0x01#8 ∧ t.readByte 0x23FE#16 = 0x03#8 ∧ t.sp = 0x23FE#16 ∧ t.pc = 0x2050#16 := by
  decide +kernel

/-- R201, Example. -/
theorem test_cp_not_taken :
    let t := ran [0xF4#8, 0x50#8, 0x20#8] { base with flags := Flags.ofByte 0x82#8 }
    t.sp = 0x2400#16 ∧ t.pc = 0x0103#16 ∧ t.readByte 0x23FF#16 = 0x00#8 := by
  decide +kernel

/-- R203, Example. -/
theorem test_ret :
    let t := ran [0xC9#8] (cells [(0x23FE, 0x03#8), (0x23FF, 0x01#8)] { base with sp := 0x23FE#16 })
    t.pc = 0x0103#16 ∧ t.sp = 0x2400#16 := by
  decide +kernel

/-- R207, Example. -/
theorem test_rc_not_taken :
    let t := ran [0xD8#8] (cells [(0x23FE, 0x03#8), (0x23FF, 0x01#8)] { base with sp := 0x23FE#16 })
    t.pc = 0x0101#16 ∧ t.sp = 0x23FE#16 := by
  decide +kernel

/-- R212, Example. -/
theorem test_rst_0 :
    let t := ran [0xC7#8] { base with pc := 0x1234#16, sp := 0x0000#16 }
    t.readByte 0xFFFF#16 = 0x12#8 ∧ t.readByte 0xFFFE#16 = 0x35#8 ∧ t.sp = 0xFFFE#16 ∧ t.pc = 0x0000#16 := by
  decide +kernel

/-- R212, Example. -/
theorem test_rst_7 :
    let t := ran [0xFF#8] base
    t.readByte 0x23FF#16 = 0x01#8 ∧ t.readByte 0x23FE#16 = 0x01#8 ∧ t.sp = 0x23FE#16 ∧ t.pc = 0x0038#16 := by
  decide +kernel

/-- R220, Example. -/
theorem test_push :
    let t := ran [0xD5#8] { base with regs := ⟨0x00, 0x00, 0x00, 0x8F, 0x9D, 0x00, 0x00⟩, sp := 0x3A2C#16 }
    t.readByte 0x3A2B#16 = 0x8F#8 ∧ t.readByte 0x3A2A#16 = 0x9D#8 ∧ t.sp = 0x3A2A#16 := by
  decide +kernel

/-- R221, Example. -/
theorem test_push_psw :
    let t := ran [0xF5#8] { base with regs := ⟨0x1F, 0x00, 0x00, 0x00, 0x00, 0x00, 0x00⟩, flags := Flags.ofByte 0x47#8, sp := 0x502A#16 }
    t.readByte 0x5029#16 = 0x1F#8 ∧ t.readByte 0x5028#16 = 0x47#8 := by
  decide +kernel

/-- R222, Example. -/
theorem test_pop :
    let t := ran [0xE1#8] (cells [(0x1239, 0x3D#8), (0x123A, 0x93#8)] { base with sp := 0x1239#16 })
    t.hl = 0x933D#16 ∧ t.sp = 0x123B#16 := by
  decide +kernel

/-- R223, Example. -/
theorem test_pop_psw :
    let t := ran [0xF1#8] (cells [(0x2C00, 0xFF#8), (0x2C01, 0xFF#8)] { base with sp := 0x2C00#16 })
    t.regs.a = 0xFF#8 ∧ t.flags.toByte = 0xD7#8 ∧ t.sp = 0x2C02#16 := by
  decide +kernel

/-- R224, Example. -/
theorem test_xthl :
    let t := ran [0xE3#8] (cells [(0x10AD, 0xF0#8), (0x10AE, 0x0D#8)] { base with regs := ⟨0x00, 0x00, 0x00, 0x00, 0x00, 0x0B, 0x3C⟩, sp := 0x10AD#16 })
    t.hl = 0x0DF0#16 ∧ t.readByte 0x10AD#16 = 0x3C#8 ∧ t.readByte 0x10AE#16 = 0x0B#8 ∧ t.sp = 0x10AD#16 := by
  decide +kernel

/-- R225, Example. -/
theorem test_sphl :
    (ran [0xF9#8] { base with regs := ⟨0x00, 0x00, 0x00, 0x00, 0x00, 0x50, 0x6C⟩ }).sp = 0x506C#16 := by
  decide +kernel

/-- R230, Example. -/
theorem test_in :
    let t := ran [0xDB#8, 0x10#8] { base with portIn := [0x5A#8] }
    t.regs.a = 0x5A#8 ∧ t.trace = [.portIn 0x10#8 0x5A#8] ∧ t.pc = 0x0102#16 := by
  decide +kernel

/-- R231, Example. -/
theorem test_out :
    let t := ran [0xD3#8, 0x20#8] { base with regs := ⟨0x7E, 0x00, 0x00, 0x00, 0x00, 0x00, 0x00⟩ }
    t.trace = [.portOut 0x20#8 0x7E#8] ∧ t.pc = 0x0102#16 := by
  decide +kernel

/-- R236, Example. -/
theorem test_ei :
    let t := ran [0xFB#8] base
    t.inte = false ∧ t.eiPending = true ∧ t.pc = 0x0101#16 := by
  decide +kernel

/-- R236, R239, Example. -/
theorem test_nop_after_ei :
    let t := ran [0x00#8] { base with eiPending := true }
    t.inte = true ∧ t.eiPending = false := by
  decide +kernel

/-- R236, R237, Example. -/
theorem test_di_after_ei :
    let t := ran [0xF3#8] { base with eiPending := true }
    t.inte = false ∧ t.eiPending = false := by
  decide +kernel

/-- R238, Example. -/
theorem test_hlt :
    let t := ran [0x76#8] base
    t.halted = true ∧ t.pc = 0x0101#16 := by
  decide +kernel

/-- R240, Example. -/
theorem test_sim_masks :
    (ran [0x30#8] { base with regs := ⟨0x0D, 0x00, 0x00, 0x00, 0x00, 0x00, 0x00⟩ }).serial = ⟨true, false, true, false, false⟩ := by
  decide +kernel

/-- R240, Example. -/
theorem test_sim_sod :
    let t := ran [0x30#8] { base with regs := ⟨0xC0, 0x00, 0x00, 0x00, 0x00, 0x00, 0x00⟩ }
    t.serial.sod = true ∧ t.trace = [.sodWrite true] := by
  decide +kernel

/-- R241, the Example with INTE = 0 (with INTE = 1 the boundary before it would accept RST 7.5). -/
theorem test_rim :
    let t := ran [0x20#8] { base with schedule := [{ Pins.quiet with rst55 := true, sid := true }], serial := ⟨true, true, false, true, false⟩ }
    t.regs.a = 0xD3#8 ∧ t.trace = [.sidRead true] := by
  decide +kernel

/-- R251. -/
theorem test_undefined :
    let t := ran [0xCB#8] base
    t.fault = some (.undefinedOpcode 0xCB#8 0x0100#16) ∧ t.pc = 0x0100#16 := by
  decide +kernel

/-- R84, R251. -/
theorem test_sim_on_8080 :
    (ran [0x30#8] { base with variant := .i8080 }).fault = some (.undefinedOpcode 0x30#8 0x0100#16) := by
  decide +kernel

/-- R259, R260. -/
theorem test_rst65_accepted :
    let t := ran [0x00#8] { base with inte := true, serial := ⟨false, false, false, false, false⟩, schedule := [{ Pins.quiet with rst65 := true, rst55 := true }] }
    t.pc = 0x0034#16 ∧ t.readByte 0x23FF#16 = 0x01#8 ∧ t.readByte 0x23FE#16 = 0x00#8 ∧ t.inte = false := by
  decide +kernel

/-- R256, R260: the edge is latched at a boundary that accepts TRAP. -/
theorem test_rst75_latched_at_trap :
    let t := ran [0x00#8] { base with schedule := [{ Pins.quiet with trap := true, rst75 := true }] }
    t.pc = 0x0024#16 ∧ t.serial.i75 = true := by
  decide +kernel

/-- R238, R256: the edge is latched while halted, masked or not. -/
theorem test_rst75_latched_while_halted :
    let t := stepState { base with halted := true, schedule := [{ Pins.quiet with rst75 := true }] }
    t.halted = true ∧ t.serial = ⟨true, true, true, true, false⟩ := by
  decide +kernel

/-- R258. -/
theorem test_int_call_accepted :
    let t := ran [0x00#8] { base with variant := .i8080, inte := true, halted := true, schedule := [{ Pins.quiet with intr := some [0xCD#8, 0x50#8, 0x20#8] }] }
    t.pc = 0x2050#16 ∧ t.readByte 0x23FF#16 = 0x01#8 ∧ t.readByte 0x23FE#16 = 0x00#8 ∧ t.halted = false := by
  decide +kernel

/-! ### Witnesses: for every statement with hypotheses, values that meet them, each clause at its boundary -/

/-- Decoding and encoding: the shortest and the longest instructions, with operand bytes at their ends. -/
theorem witness_DecodeOfEncode :
    (Instr.nop).wf = true ∧ (Instr.jm 0xFFFF#16).wf = true ∧ (Instr.undefined 0xFD#8).wf = true := by decide

theorem witness_EncodeOfDecode :
    decode [0x21#8, 0x34#8, 0x12#8, 0x76#8] = .ok (.lxiH 0x1234#16, [0x76#8]) := by decide +kernel

theorem witness_LengthsAreListed :
    (Instr.rim).definedOn .i8085A = true ∧ decode [0x20#8] = .ok (.rim, []) ∧
    (Instr.cm 0xFFFF#16).definedOn .i8085A = true ∧
      decode [0xFC#8, 0xFF#8, 0xFF#8] = .ok (.cm 0xFFFF#16, []) := by
  decide +kernel

/-- The baseline with the instruction's bytes at PC. -/
def placed (bs : List Byte) (s : State) : State := s.placeBytes s.pc bs

/-- The baseline with every mask off, interrupts enabled and these reports to come. -/
def asking (reports : List Pins) : State :=
  { base with inte := true, serial := ⟨false, false, false, false, false⟩, schedule := reports }

theorem witness_StepRunsDecoded :
    let s := placed [0x3E#8, 0x5A#8] base
    s.fault = none ∧ s.nothingAcceptable = true ∧ s.halted = false ∧
    decode [s.sample.fetchByte s.pc, s.sample.fetchByte (s.pc + 1), s.sample.fetchByte (s.pc + 2)] =
      .ok (.mviA 0x5A#8, [0x00#8]) := by
  decide +kernel

/-- R254: the last three bytes of the space and the wrap of the fetch to 0000h. -/
theorem witness_StepRunsDecoded_wrap :
    let s := placed [0xC3#8, 0x00#8, 0x20#8] { base with pc := 0xFFFE#16 }
    s.fault = none ∧ s.nothingAcceptable = true ∧ s.halted = false ∧
    decode [s.sample.fetchByte s.pc, s.sample.fetchByte (s.pc + 1), s.sample.fetchByte (s.pc + 2)] =
      .ok (.jmp 0x2000#16, []) := by
  decide +kernel

theorem witness_StandingRuns :
    step (placed [0xCB#8] base) = .fault (.undefinedOpcode 0xCB#8 0x0100#16) ∧
    ({ base with fault := some (.undefinedOpcode 0xCB#8 0x0100#16) } : State).fault =
      some (.undefinedOpcode 0xCB#8 0x0100#16) ∧
    ({ base with halted := true } : State).fault = none ∧
    ({ base with halted := true } : State).nothingAcceptable = true :=
  ⟨rfl, rfl, rfl, rfl⟩

theorem witness_UndefinedOpcodeRaised :
    (placed [0x08#8] base).fault = none ∧ (placed [0x08#8] base).nothingAcceptable = true ∧
    (placed [0x08#8] base).halted = false ∧
    (placed [0x08#8] base).sample.fetchByte (placed [0x08#8] base).pc = 0x08#8 := by
  decide +kernel

theorem witness_UndefinedOpcodeRaised_8080 :
    let s := placed [0x30#8] { base with variant := .i8080 }
    s.fault = none ∧ s.nothingAcceptable = true ∧ s.halted = false ∧ s.variant = .i8080 ∧
    s.sample.fetchByte s.pc = 0x30#8 := by
  decide +kernel

theorem witness_UndefinedInstructionsFault :
    ({ base with variant := .i8080 } : State).variant = .i8080 ∧
    exec .rim { base with variant := .i8080 } = .fault (.undefinedOpcode 0x20#8 0x0100#16) :=
  ⟨rfl, rfl⟩

theorem witness_DefinedInstructionsComplete :
    (Instr.sim).definedOn base.variant = true ∧ (Instr.sim).isTransfer = false ∧
    (Instr.daa).definedOn .i8080 = true ∧ (Instr.rst7).definedOn .i8080 = true := by
  decide

theorem witness_CompletionStep :
    (∃ t, exec .di { base with inte := true, eiPending := true } = .next t) ∧
    (∃ t, exec .ei { base with eiPending := true } = .next t) ∧
    (∃ t, exec .nop { base with eiPending := true } = .next t) :=
  ⟨⟨_, rfl⟩, ⟨_, rfl⟩, ⟨_, rfl⟩⟩

theorem witness_ControlStateWriters :
    (∃ t, exec .nop base = .next t) ∧ (∃ t, exec .sim base = .next t) ∧ (∃ t, exec .hlt base = .next t) ∧
    (∃ t, exec (.inPort 0xFF#8) { base with portIn := [0x5A#8] } = .next t) :=
  ⟨⟨_, rfl⟩, ⟨_, rfl⟩, ⟨_, rfl⟩, ⟨_, rfl⟩⟩

theorem witness_FlagLegend :
    (∃ t, exec .xchg base = .next t) ∧ (∃ t, exec .inrM base = .next t) ∧ (∃ t, exec .dadSp base = .next t) ∧
    (∃ t, exec (.ani 0xFF#8) base = .next t) ∧ (∃ t, exec .oraA base = .next t) ∧ (∃ t, exec .popPsw base = .next t) :=
  ⟨⟨_, rfl⟩, ⟨_, rfl⟩, ⟨_, rfl⟩, ⟨_, rfl⟩, ⟨_, rfl⟩, ⟨_, rfl⟩⟩

theorem witness_DecimalSum : isPackedDecimal 0x99#8 ∧ isPackedDecimal 0x00#8 :=
  ⟨⟨by decide, by decide⟩, ⟨by decide, by decide⟩⟩

/-- The wrap: the high byte goes to 0000h. -/
theorem witness_StoredWordIsLittleEndian :
    base.cellKind 0xFFFF#16 = .ram ∧ base.cellKind (0xFFFF#16 + 1) = .ram ∧
    ∃ t, exec (.shld 0xFFFF#16) base = .next t :=
  ⟨rfl, rfl, ⟨_, rfl⟩⟩

theorem witness_StoreSeenByNextFetch :
    let s : State := { base with pc := 0xFFFD#16 }
    s.cellKind (s.pc + 3) = .ram ∧ ∃ t, exec (.sta (s.pc + 3)) s = .next t :=
  ⟨rfl, ⟨_, rfl⟩⟩

theorem witness_ConditionalCalls :
    base.flags.holds .z = false ∧ base.flags.holds .nz = true ∧ base.flags.holds .m = false ∧
    base.flags.holds .p = true := by
  decide

/-- SP = 0001h: the pushed bytes lie at 0000h and FFFFh. -/
theorem witness_ReturnUndoesCall :
    let s : State := { base with sp := 0x0001#16 }
    s.cellKind (s.sp - 1) = .ram ∧ s.cellKind (s.sp - 2) = .ram ∧ ∃ t, exec (.call 0x3000#16) s = .next t :=
  ⟨rfl, rfl, ⟨_, rfl⟩⟩

theorem witness_PopUndoesPush :
    let s : State := { base with sp := 0x0000#16, regs := ⟨1, 2, 3, 4, 5, 6, 7⟩ }
    s.cellKind (s.sp - 1) = .ram ∧ s.cellKind (s.sp - 2) = .ram ∧
    (∃ t, exec (Instr.push .de) s = .next t) ∧ (∃ t, exec .pushPsw s = .next t) :=
  ⟨rfl, rfl, ⟨_, rfl⟩, ⟨_, rfl⟩⟩

/-- The two parts, and A with bits 3 and 6 set and clear. -/
theorem witness_SetInterruptMask :
    ({ base with variant := .i8080 } : State).variant = .i8080 ∧ base.variant = .i8085A ∧
    (0x48#8).getLsbD 3 = true ∧ (0x48#8).getLsbD 6 = true ∧ base.regs.a.getLsbD 3 = false ∧
    base.regs.a.getLsbD 6 = false := by
  decide

theorem witness_ReadInterruptMask :
    ({ base with variant := .i8080 } : State).variant = .i8080 ∧ base.variant = .i8085A ∧ base.eiPending = false := by
  decide

/-- The four equivalences only name the four conditions; here on an 8085A that accepts RST 7.5 with RST 6.5, RST 5.5
and INTR present as well. -/
theorem witness_RequestPriority :
    let s : State := (asking [⟨some [0xFF#8], false, true, true, true, false⟩]).sample
    ∃ on a75 a65 a55 : Prop,
      (on ↔ s.inte = true ∧ s.eiPending = false) ∧ (a75 ↔ on ∧ s.serial.m75 = false ∧ s.serial.i75 = true) ∧
      (a65 ↔ on ∧ s.serial.m65 = false ∧ s.pins.rst65 = true) ∧
      (a55 ↔ on ∧ s.serial.m55 = false ∧ s.pins.rst55 = true) ∧
      s.variant = .i8085A ∧ s.select = some .rst75 ∧ on ∧ a75 ∧ a65 ∧ a55 :=
  ⟨_, _, _, _, Iff.rfl, Iff.rfl, Iff.rfl, Iff.rfl, by decide +kernel⟩

/-- One state for each request, requests after it in the order present as well, and one with none acceptable. -/
theorem witness_RequestPriority_requests :
    let all : Pins := ⟨some [0xFF#8], true, true, true, true, false⟩
    (asking [all]).sample.select = some .trap ∧
    (asking [{ all with trap := false }]).sample.select = some .rst75 ∧
    (asking [{ all with trap := false, rst75 := false }]).sample.select = some .rst65 ∧
    (asking [{ all with trap := false, rst75 := false, rst65 := false }]).sample.select = some .rst55 ∧
    (asking [{ Pins.quiet with intr := some [0xFF#8] }]).sample.select = some (.intr [0xFF#8]) ∧
    ({ asking [all] with variant := .i8080 } : State).sample.select = some (.intr [0xFF#8]) ∧
    ({ asking [{ all with trap := false }] with eiPending := true } : State).sample.select = none := by
  decide +kernel

theorem witness_VectoredAcceptance :
    ∀ c ∈ [({ Pins.quiet with trap := true }, Request.trap), ({ Pins.quiet with rst75 := true }, .rst75),
        ({ Pins.quiet with rst65 := true }, .rst65), ({ Pins.quiet with rst55 := true }, .rst55)],
      (asking [c.1]).fault = none ∧ (asking [c.1]).sample.select = some c.2 := by
  decide +kernel

/-- RST 0, RST 7, a CALL, and an instruction the model refuses. -/
theorem witness_SuppliedAcceptance :
    (∀ reports ∈ [[0xC7#8], [0xFF#8], [0xCD#8, 0xFF#8, 0xFF#8]],
      (asking [{ Pins.quiet with intr := some reports }]).fault = none) ∧
    (asking [{ Pins.quiet with intr := some [0xC7#8] }]).sample.select = some (.intr [0xC7#8]) ∧
    [0xC7#8] = [BitVec.ofNat 8 (0xC7 + 8 * (0 : Fin 8).val)] ∧
    (asking [{ Pins.quiet with intr := some [0xFF#8] }]).sample.select = some (.intr [0xFF#8]) ∧
    [0xFF#8] = [BitVec.ofNat 8 (0xC7 + 8 * (7 : Fin 8).val)] ∧
    (asking [{ Pins.quiet with intr := some [0xCD#8, 0xFF#8, 0xFF#8] }]).sample.select =
      some (.intr [0xCD#8, 0xFF#8, 0xFF#8]) := by
  decide +kernel

theorem witness_SuppliedAcceptance_refused :
    (asking [{ Pins.quiet with intr := some [0x00#8] }]).fault = none ∧
    (asking [{ Pins.quiet with intr := some [0x00#8] }]).sample.select = some (.intr [0x00#8]) ∧
    (∀ n : Fin 8, [0x00#8] ≠ [BitVec.ofNat 8 (0xC7 + 8 * n.val)]) ∧
    (∀ lo hi : Byte, [0x00#8] ≠ [0xCD#8, lo, hi]) :=
  ⟨rfl, by decide +kernel, by decide, by simp⟩

/-- An 8080 with a TRAP in the list (it has no such input), and an 8085A with requests that stay masked. -/
theorem witness_HaltIsFinal :
    let s : State := { base with halted := true, schedule := [{ Pins.quiet with rst65 := true, rst75 := true }] }
    let t : State := { base with variant := .i8080, halted := true, schedule := [{ Pins.quiet with trap := true }] }
    (s.fault = none ∧ s.halted = true ∧ s.inte = false ∧ (∀ p ∈ s.schedule, p.trap = false)) ∧
    (t.fault = none ∧ t.halted = true ∧ t.inte = false ∧ t.variant = .i8080) := by
  decide

/-- EI and RET at 0000h, the stack at 0002h, every other cell absent, and a request at both coming boundaries. -/
def atHandlerEnd : State :=
  { placed [0xFB#8, 0xC9#8] State.reset with
    sp := 0x0002#16
    memMap := [⟨0x0004, 0xFFFC, .absent⟩]
    schedule := [{ Pins.quiet with rst65 := true }, { Pins.quiet with rst65 := true }] }

theorem witness_HandlerReturns :
    atHandlerEnd.fault = none ∧ atHandlerEnd.halted = false ∧ atHandlerEnd.inte = false ∧
    atHandlerEnd.eiPending = false ∧ (∀ p ∈ atHandlerEnd.schedule.take 2, p.trap = false) ∧
    (∀ a ∈ [atHandlerEnd.pc, atHandlerEnd.pc + 1, atHandlerEnd.sp, atHandlerEnd.sp + 1],
      atHandlerEnd.cellKind a ≠ .absent) ∧
    atHandlerEnd.readByte atHandlerEnd.pc = 0xFB#8 ∧ atHandlerEnd.readByte (atHandlerEnd.pc + 1) = 0xC9#8 :=
  ⟨rfl, rfl, rfl, rfl, by decide,
    List.forall_mem_cons.2 ⟨by decide +kernel, List.forall_mem_cons.2 ⟨by decide +kernel,
      List.forall_mem_cons.2 ⟨by decide +kernel, List.forall_mem_cons.2 ⟨by decide +kernel, List.forall_mem_nil _⟩⟩⟩⟩,
    rfl, rfl⟩

theorem witness_ResetEvent :
    base.variant = .i8085A ∧ ({ base with variant := .i8080 } : State).variant = .i8080 := by decide

/-- A step with reports still to come, and one with none: an instruction, an acceptance and a halted wait. -/
theorem witness_ResetStateChosen :
    (∃ t, step (asking [{ Pins.quiet with rst65 := true }, Pins.quiet]) = .next t) ∧ (∃ t, step State.reset = .next t) ∧
    (∃ t, step { base with halted := true, schedule := [Pins.quiet] } = .next t) :=
  ⟨⟨_, rfl⟩, ⟨_, rfl⟩, ⟨_, rfl⟩⟩

/-- A store of 7Ah at FFFFh, the end of the space. -/
theorem witness_MemoryFormKept :
    let s : State := placed [0x02#8] { base with regs := ⟨0x7A, 0xFF, 0xFF, 0x00, 0x00, 0x00, 0x00⟩ }
    s.wf = true ∧ ∃ t, step s = .next t :=
  ⟨by decide +kernel, ⟨_, rfl⟩⟩

theorem witness_RomImageKept :
    let s : State := placed [0x02#8] { base with memMap := [⟨0x0000, 0x0100, .rom⟩] }
    (∀ a, s.cellKind a = .rom → s.readByte a = s.readByte a) ∧ s.cellKind s.bc = .rom ∧ ∃ t, step s = .next t :=
  ⟨fun _ _ => rfl, rfl, ⟨_, rfl⟩⟩

theorem witness_TraceGrows : ∃ t, step (placed [0xD3#8, 0xFF#8] base) = .next t := ⟨_, rfl⟩

end Sys2Proof.Tests
end

section
/-!
PROOFS. Additions and subtractions (41_arithmetic, R122 to R133). The accumulator group shares one encoding and one
frame, whatever the operation and the operand; each statement then only names the result and the flags of its operation.
-/

namespace Sys2Proof.Machine

/-! ### The accumulator group over all its operands -/

/-- R77: `10 OOO SSS`, or `11 OOO 110` and d8. -/
theorem encode_alu (o : AluOp) (k : AluOperand) : encode (k.instr o) = k.bytes o := by
  cases k with
  | reg x => cases o <;> cases x <;> rfl
  | mem => cases o <;> rfl
  | imm d8 => cases o <;> rfl

theorem exec_alu (o : AluOp) (k : AluOperand) (s : State) :
    exec (k.instr o) s = ordinary k.len (fun t => t.accOp o (t.aluOperand k)) s := by
  cases k with
  | reg x => exact exec_aluReg o x s
  | mem => exact exec_aluMem o s
  | imm d8 => exact exec_aluImm o d8 s

/-- That PC has moved past the instruction does not change the operand: M is read at HL. -/
@[simp] theorem State.aluOperand_advance (s : State) (len : Word) (k : AluOperand) :
    (s.advance len).aluOperand k = s.aluOperand k := by
  cases k with
  | reg x => rfl
  | mem => exact State.readByte_congr rfl rfl rfl s.hl
  | imm d8 => rfl

theorem State.accOp_advance (s : State) (len : Word) (o : AluOp) (v : Byte) :
    (s.advance len).accOp o v = (s.accOp o v).advance len := by
  cases o <;> rfl

/-- The frame of an accumulator operation: it writes the registers and the flags alone. -/
theorem State.accOp_frame (s : State) (o : AluOp) (v : Byte) :
    s.accOp o v = { s with regs := (s.accOp o v).regs, flags := (s.accOp o v).flags } := by
  cases o <;> rfl

/-- The whole next state after an instruction of the group whose operation puts `res` in A and leaves the flags `f`. -/
theorem exec_alu_withResult {o : AluOp} {k : AluOperand} {s : State} {res : Byte} {f : Flags}
    (hregs : (s.accOp o (s.aluOperand k)).regs = { s.regs with a := res })
    (hflags : (s.accOp o (s.aluOperand k)).flags = f) :
    exec (k.instr o) s = .next (s.withResult k.len res f) := by
  rw [exec_alu, ordinary_retired _ _ _ (by simp) (by simp), State.aluOperand_advance, State.accOp_advance,
    State.accOp_frame, hregs, hflags]
  rfl

/-! ### The statements -/

/-- Settles O26: ADD and ADC are the group's operations whose result is ADD8's, without and with the old carry. -/
theorem additions : Obligations.Additions := by
  intro k s
  have hadd := exec_alu_withResult (o := .add) (k := k) (s := s) rfl rfl
  have hadc := exec_alu_withResult (o := .adc) (k := k) (s := s) rfl rfl
  exact ⟨⟨encode_alu .add k, hadd⟩, encode_alu .adc k, hadc⟩

/-- Settles O27: SUB and SBB are the group's operations whose result is SUB8's, without and with the old borrow. -/
theorem subtractions : Obligations.Subtractions := by
  intro k s
  have hsub := exec_alu_withResult (o := .sub) (k := k) (s := s) rfl rfl
  have hsbb := exec_alu_withResult (o := .sbb) (k := k) (s := s) rfl rfl
  exact ⟨⟨encode_alu .sub k, hsub⟩, encode_alu .sbb k, hsbb⟩

end Sys2Proof.Machine
end

section
/-!
PROOFS. Complement and carry (42_logical, R172 to R174). CMC and STC share one frame, that of an instruction which
writes CY alone; CMA's frame is that of a result in A which leaves the flags as they were.
-/

namespace Sys2Proof.Machine

/-- The complement of a byte is its exclusive-or with FFh (R172). -/
theorem not_eq_xor_ff (v : Byte) : ~~~v = v ^^^ 0xFF#8 :=
  BitVec.xor_allOnes.symm

/-- The whole next state after an instruction whose operation writes CY alone, the new CY read off the flags. -/
theorem ordinary_setCarry (len : Word) (cy : Flags → Bool) (s : State) :
    ordinary len (fun t => t.setCarry (cy t.flags)) s =
      .next { s.retired len with flags := { s.flags with cy := cy s.flags } } :=
  ordinary_retired len _ s rfl rfl

/-- CMA leaves A exclusive-or FFh, and the flags as they were. -/
theorem exec_cma_withResult (s : State) :
    exec .cma s = .next (s.withResult 1 (s.regs.a ^^^ 0xFF#8) s.flags) := by
  rw [exec_cma, ordinary_retired _ _ _ rfl rfl, ← not_eq_xor_ff]
  rfl

/-- Settles O36: CMA is a result in A that keeps the flags; CMC and STC are the two instructions that write CY alone. -/
theorem complementAndCarry : Obligations.ComplementAndCarry := by
  intro s
  have hcmc := (exec_cmc s).trans (ordinary_setCarry 1 (fun f => !f.cy) s)
  have hstc := (exec_stc s).trans (ordinary_setCarry 1 (fun _ => true) s)
  exact ⟨⟨rfl, exec_cma_withResult s⟩, ⟨rfl, hcmc⟩, rfl, hstc⟩

end Sys2Proof.Machine
end

section
/-!
PROOFS. Encoding (30_encoding). The opcode map and the encoder agree at every cell, and no well-formed instruction is
missing from the map; decoding and encoding are then inverse to each other, format by format.
-/

namespace Sys2Proof

/-! ### The opcode map and the encoder, cell by cell -/

/-- What the encoder must give for a cell of the opcode map at this opcode byte: its instructions are well-formed and
their bytes are this one and the operand in the cell's format (R72, R79); a cell without an instruction is one of the
empty bytes (R84). -/
def Entry.EncodesAs (op : Byte) : Entry → Prop
  | .none => (Instr.undefined op).wf = true
  | .i1 i => i.wf = true ∧ encode i = [op]
  | .i2 f => ∀ v, (f v).wf = true ∧ encode (f v) = [op, v]
  | .p2 f => ∀ v, (f v).wf = true ∧ encode (f v) = [op, v]
  | .a3 f => ∀ w, (f w).wf = true ∧ encode (f w) = [op, lowByte w, highByte w]

/-- The cells of a row encode as the opcode bytes from `base` on. -/
def RowEncodes : Nat → List Entry → Prop
  | _, [] => True
  | base, e :: es => e.EncodesAs (BitVec.ofNat 8 base) ∧ RowEncodes (base + 1) es

theorem RowEncodes.getD {es : List Entry} {base k : Nat} (h : RowEncodes base es) (hk : k < es.length) :
    (es.getD k .none).EncodesAs (BitVec.ofNat 8 (base + k)) := by
  induction es generalizing base k with
  | nil => exact absurd hk (Nat.not_lt_zero k)
  | cons e es ih =>
    cases k with
    | zero => exact h.1
    | succ k =>
      have h' := ih h.2 (Nat.lt_of_succ_lt_succ hk)
      rwa [Nat.add_right_comm] at h'


/-- Every row of the opcode map encodes as its opcode bytes (R89). -/
theorem opcodeMap_rowEncodes (r : Nat) (hr : r < 16) : RowEncodes (16 * r) (opcodeMap.getD r []) := by
  interval_cases r <;>
    simp [RowEncodes, Entry.EncodesAs, Instr.wf, undefinedBytes, encode, opcodeMap, opcodeRow0, opcodeRow1, opcodeRow2,
      opcodeRow3, opcodeRow4, opcodeRow5, opcodeRow6, opcodeRow7, opcodeRow8, opcodeRow9, opcodeRowA, opcodeRowB,
      opcodeRowC, opcodeRowD, opcodeRowE, opcodeRowF]

theorem opcodeMap_row_length (r : Nat) (hr : r < 16) : (opcodeMap.getD r []).length = 16 := by
  interval_cases r <;> rfl

/-- The decoder's map and the encoder agree at every opcode byte. -/
theorem opcodeEntry_encodesAs (op : Byte) : (opcodeEntry op).EncodesAs op := by
  have hr : op.toNat / 16 < 16 := by have := op.isLt; omega
  have hc : op.toNat % 16 < (opcodeMap.getD (op.toNat / 16) []).length := by
    rw [opcodeMap_row_length _ hr]; omega
  have h := (opcodeMap_rowEncodes _ hr).getD hc
  rwa [Nat.div_add_mod, BitVec.ofNat_toNat, BitVec.setWidth_eq] at h

/-- The instruction a cell builds has the cell's length, starts with the cell's opcode byte and is well-formed. -/
theorem decodeAt_encode (op b2 b3 : Byte) :
    (decodeAt op b2 b3).wf = true ∧ encode (decodeAt op b2 b3) = [op, b2, b3].take (opcodeEntry op).length := by
  have h := opcodeEntry_encodesAs op
  unfold decodeAt
  cases he : opcodeEntry op with
  | none => rw [he] at h; exact ⟨h, rfl⟩
  | i1 i => rw [he] at h; exact h
  | i2 f => rw [he] at h; exact h b2
  | p2 f => rw [he] at h; exact h b2
  | a3 f =>
    rw [he] at h
    have hw := h (joinBytes b3 b2)
    rw [lowByte_joinBytes, highByte_joinBytes] at hw
    exact hw

/-- The three bytes from an address on decode to the same instruction as the list of its own bytes (R86). -/
theorem decode_encode_decodeAt (op b2 b3 : Byte) (rest : List Byte) :
    decode (encode (decodeAt op b2 b3) ++ rest) = .ok (decodeAt op b2 b3, rest) := by
  rw [(decodeAt_encode op b2 b3).2]
  unfold decodeAt
  cases he : opcodeEntry op with
  | none => exact decode_none he rest
  | i1 i => exact decode_i1 he rest
  | i2 f => exact decode_i2 he b2 rest
  | p2 f => exact decode_p2 he b2 rest
  | a3 f => exact decode_a3 he b2 b3 rest

/-- No well-formed instruction is missing from the opcode map: each form stands at the code of its operand (R74 to R77,
R89). -/
theorem exists_decodeAt_eq (i : Instr) (h : i.wf = true) : ∃ op b2 b3, decodeAt op b2 b3 = i := by
  have alone (j : Instr) (hj : decodeAt ((encode j).headD 0) 0 0 = j) : ∃ op b2 b3, decodeAt op b2 b3 = j :=
    ⟨_, _, _, hj⟩
  have word (op : Byte) (f : Word → Instr) (w : Word) (he : opcodeEntry op = .a3 f) :
      ∃ op b2 b3, decodeAt op b2 b3 = f w :=
    ⟨op, lowByte w, highByte w, by rw [decodeAt, he, Entry.build, joinBytes_high_low]⟩
  induction i using Instr.byForms with
  | h_movRegReg x y => exact ⟨BitVec.ofNat 8 (0x40 + 8 * x.code + y.code), 0, 0, by cases x <;> cases y <;> rfl⟩
  | h_movRegMem x => exact ⟨BitVec.ofNat 8 (0x46 + 8 * x.code), 0, 0, by cases x <;> rfl⟩
  | h_movMemReg x => exact ⟨BitVec.ofNat 8 (0x70 + x.code), 0, 0, by cases x <;> rfl⟩
  | h_mviReg x v => exact ⟨BitVec.ofNat 8 (0x06 + 8 * x.code), v, 0, by cases x <;> rfl⟩
  | h_mviM v => exact ⟨0x36#8, v, 0, rfl⟩
  | h_lxi p w => exact word (BitVec.ofNat 8 (0x01 + 16 * p.code)) (Instr.lxi p) w (by cases p <;> rfl)
  | h_lda w => exact word 0x3A#8 _ w rfl
  | h_sta w => exact word 0x32#8 _ w rfl
  | h_lhld w => exact word 0x2A#8 _ w rfl
  | h_shld w => exact word 0x22#8 _ w rfl
  | h_ldax p => exact ⟨BitVec.ofNat 8 (0x0A + 16 * p.code), 0, 0, by cases p <;> rfl⟩
  | h_stax p => exact ⟨BitVec.ofNat 8 (0x02 + 16 * p.code), 0, 0, by cases p <;> rfl⟩
  | h_aluReg o x => exact ⟨BitVec.ofNat 8 (0x80 + 8 * o.code + x.code), 0, 0, by cases o <;> cases x <;> rfl⟩
  | h_aluMem o => exact ⟨BitVec.ofNat 8 (0x86 + 8 * o.code), 0, 0, by cases o <;> rfl⟩
  | h_aluImm o v => exact ⟨BitVec.ofNat 8 (0xC6 + 8 * o.code), v, 0, by cases o <;> rfl⟩
  | h_inrReg x => exact ⟨BitVec.ofNat 8 (0x04 + 8 * x.code), 0, 0, by cases x <;> rfl⟩
  | h_dcrReg x => exact ⟨BitVec.ofNat 8 (0x05 + 8 * x.code), 0, 0, by cases x <;> rfl⟩
  | h_inx p => exact ⟨BitVec.ofNat 8 (0x03 + 16 * p.code), 0, 0, by cases p <;> rfl⟩
  | h_dcx p => exact ⟨BitVec.ofNat 8 (0x0B + 16 * p.code), 0, 0, by cases p <;> rfl⟩
  | h_dad p => exact ⟨BitVec.ofNat 8 (0x09 + 16 * p.code), 0, 0, by cases p <;> rfl⟩
  | h_jmp w => exact word 0xC3#8 _ w rfl
  | h_jcond k w => exact word (BitVec.ofNat 8 (0xC2 + 8 * k.code)) (Instr.jcond k) w (by cases k <;> rfl)
  | h_call w => exact word 0xCD#8 _ w rfl
  | h_ccond k w => exact word (BitVec.ofNat 8 (0xC4 + 8 * k.code)) (Instr.ccond k) w (by cases k <;> rfl)
  | h_rcond k => exact ⟨BitVec.ofNat 8 (0xC0 + 8 * k.code), 0, 0, by cases k <;> rfl⟩
  | h_rst n => exact ⟨BitVec.ofNat 8 (0xC7 + 8 * n.val), 0, 0, by revert n; decide⟩
  | h_push p => exact ⟨BitVec.ofNat 8 (0xC5 + 16 * p.code), 0, 0, by cases p <;> rfl⟩
  | h_pop p => exact ⟨BitVec.ofNat 8 (0xC1 + 16 * p.code), 0, 0, by cases p <;> rfl⟩
  | h_inPort p => exact ⟨0xDB#8, p, 0, rfl⟩
  | h_outPort p => exact ⟨0xD3#8, p, 0, rfl⟩
  | h_undefined op =>
    refine ⟨op, 0, 0, ?_⟩
    have hop : op ∈ undefinedBytes := by simpa [Instr.wf] using h
    simp only [undefinedBytes, List.mem_cons, List.not_mem_nil, or_false] at hop
    rcases hop with rfl | rfl | rfl | rfl | rfl | rfl | rfl | rfl | rfl | rfl <;> rfl
  | _ => exact alone _ rfl

/-- An instruction's first byte is the opcode byte it was read from. -/
theorem encode_decodeAt_headD (op b2 b3 : Byte) : (encode (decodeAt op b2 b3)).headD 0 = op := by
  rw [(decodeAt_encode op b2 b3).2]
  cases opcodeEntry op <;> rfl

/-- Three bytes are enough for any instruction (R71). -/
theorem decode_three (op b2 b3 : Byte) :
    decode [op, b2, b3] = .ok (decodeAt op b2 b3, [b2, b3].drop ((opcodeEntry op).length - 1)) := by
  have hlen : ¬2 + 1 < (opcodeEntry op).length := by cases opcodeEntry op <;> simp [Entry.length]
  exact if_neg hlen

/-- The length the map gives each opcode byte is the one the table lists (R71). -/
theorem opcodeEntry_length (op : Byte) : (opcodeEntry op).length = Machine.lengthListed op.toNat := by
  have h : ∀ n : Fin 256, (opcodeEntry (BitVec.ofFin n)).length = Machine.lengthListed n.val := by decide +kernel
  exact h op.toFin

/-! ### The statements -/

/-- Settles O1: a well-formed instruction is what some bytes decode to, and those are its own bytes. -/
theorem decodeOfEncode : Obligations.DecodeOfEncode := by
  intro i rest h
  obtain ⟨op, b2, b3, rfl⟩ := exists_decodeAt_eq i h
  exact decode_encode_decodeAt op b2 b3 rest

/-- Settles O2, format by format: the cell's instruction encodes as the bytes it was read from. -/
theorem encodeOfDecode : Obligations.EncodeOfDecode := by
  intro bs i rest h
  obtain ⟨op, hop⟩ := decode_cases h
  have henc := opcodeEntry_encodesAs op
  rcases hop with ⟨j, he, rfl, rfl⟩ | ⟨f, b2, he | he, rfl, rfl⟩ | ⟨f, b2, b3, he, rfl, rfl⟩ | ⟨he, rfl, rfl⟩ <;>
    rw [he] at henc
  case inl => exact ⟨henc.1, by rw [henc.2]; rfl⟩
  case inr.inl.inl => exact ⟨(henc b2).1, by rw [(henc b2).2]; rfl⟩
  case inr.inl.inr => exact ⟨(henc b2).1, by rw [(henc b2).2]; rfl⟩
  case inr.inr.inl =>
    obtain ⟨hwf, hbytes⟩ := henc (joinBytes b3 b2)
    exact ⟨hwf, by rw [hbytes, lowByte_joinBytes, highByte_joinBytes]; rfl⟩
  case inr.inr.inr => exact ⟨henc, rfl⟩

theorem Instr.wf_of_definedOn {v : Variant} {i : Instr} (h : i.definedOn v = true) : i.wf = true := by
  cases i with
  | undefined op => exact absurd h Bool.false_ne_true
  | _ => rfl

theorem encode_length_listed (i : Instr) (h : i.wf = true) :
    (encode i).length = Machine.lengthListed ((encode i).headD 0).toNat := by
  obtain ⟨op, b2, b3, rfl⟩ := exists_decodeAt_eq i h
  rw [(decodeAt_encode op b2 b3).2, ← opcodeEntry_length]
  cases he : opcodeEntry op <;> simp [Entry.length, he]

/-- Settles O3: the decoder gives back an instruction's own bytes, and their number is the listed one. -/
theorem lengthsAreListed : Obligations.LengthsAreListed := by
  intro i h
  have hlen := encode_length_listed i (Instr.wf_of_definedOn h)
  refine ⟨hlen, fun bs rest hd => ?_⟩
  rw [← (encodeOfDecode bs i rest hd).2, List.length_append, hlen]

/-- Settles O4, each word at its cell of the map. -/
theorem wordsDecode : Obligations.WordsDecode := by
  refine ⟨?_, ?_, ?_, ?_, ?_, ?_, ?_, ?_, ?_, ?_⟩ <;> rfl

end Sys2Proof
end

section
/-!
PROOFS. The bytes of each form of instruction, by the codes of its operands (30_encoding R74 to R83).
-/

namespace Sys2Proof

@[simp] theorem encode_movRegReg (x y : Reg8) :
    encode (Instr.movRegReg x y) = [BitVec.ofNat 8 (0x40 + 8 * x.code + y.code)] := by cases x <;> cases y <;> rfl
@[simp] theorem encode_movRegMem (x : Reg8) :
    encode (Instr.movRegMem x) = [BitVec.ofNat 8 (0x46 + 8 * x.code)] := by cases x <;> rfl
@[simp] theorem encode_movMemReg (x : Reg8) :
    encode (Instr.movMemReg x) = [BitVec.ofNat 8 (0x70 + x.code)] := by cases x <;> rfl
@[simp] theorem encode_mviReg (x : Reg8) (v : Byte) :
    encode (Instr.mviReg x v) = [BitVec.ofNat 8 (0x06 + 8 * x.code), v] := by cases x <;> rfl
@[simp] theorem encode_lxi (p : RegPair) (w : Word) :
    encode (Instr.lxi p w) = [BitVec.ofNat 8 (0x01 + 16 * p.code), lowByte w, highByte w] := by cases p <;> rfl
@[simp] theorem encode_ldax (p : IndexPair) :
    encode (Instr.ldax p) = [BitVec.ofNat 8 (0x0A + 16 * p.code)] := by cases p <;> rfl
@[simp] theorem encode_stax (p : IndexPair) :
    encode (Instr.stax p) = [BitVec.ofNat 8 (0x02 + 16 * p.code)] := by cases p <;> rfl
@[simp] theorem encode_inrReg (x : Reg8) :
    encode (Instr.inrReg x) = [BitVec.ofNat 8 (0x04 + 8 * x.code)] := by cases x <;> rfl
@[simp] theorem encode_dcrReg (x : Reg8) :
    encode (Instr.dcrReg x) = [BitVec.ofNat 8 (0x05 + 8 * x.code)] := by cases x <;> rfl
@[simp] theorem encode_inx (p : RegPair) :
    encode (Instr.inx p) = [BitVec.ofNat 8 (0x03 + 16 * p.code)] := by cases p <;> rfl
@[simp] theorem encode_dcx (p : RegPair) :
    encode (Instr.dcx p) = [BitVec.ofNat 8 (0x0B + 16 * p.code)] := by cases p <;> rfl
@[simp] theorem encode_dad (p : RegPair) :
    encode (Instr.dad p) = [BitVec.ofNat 8 (0x09 + 16 * p.code)] := by cases p <;> rfl
@[simp] theorem encode_jcond (k : Cond) (w : Word) :
    encode (Instr.jcond k w) = [BitVec.ofNat 8 (0xC2 + 8 * k.code), lowByte w, highByte w] := by cases k <;> rfl
@[simp] theorem encode_ccond (k : Cond) (w : Word) :
    encode (Instr.ccond k w) = [BitVec.ofNat 8 (0xC4 + 8 * k.code), lowByte w, highByte w] := by cases k <;> rfl
@[simp] theorem encode_rcond (k : Cond) :
    encode (Instr.rcond k) = [BitVec.ofNat 8 (0xC0 + 8 * k.code)] := by cases k <;> rfl
@[simp] theorem encode_rst (n : Fin 8) :
    encode (Instr.rst n) = [BitVec.ofNat 8 (0xC7 + 8 * n.val)] := by revert n; decide
@[simp] theorem encode_push (p : StackPair) :
    encode (Instr.push p) = [BitVec.ofNat 8 (0xC5 + 16 * p.code)] := by cases p <;> rfl
@[simp] theorem encode_pop (p : StackPair) :
    encode (Instr.pop p) = [BitVec.ofNat 8 (0xC1 + 16 * p.code)] := by cases p <;> rfl

end Sys2Proof
end

section
/-!
PROOFS. What every instruction keeps. One structure says what the operation of any instruction may change, one lemma
a form shows that its operation keeps to it, and the statements over all instructions and all steps are its fields.
-/

namespace Sys2Proof.Machine

/-! ### What a store keeps -/

/-- The memory of `u` may come from that of `s` by stores: the map stands, the canonical form is kept, and so is what
every rom cell holds (R55). -/
structure State.MemoryKept (s u : State) : Prop where
  memMap : u.memMap = s.memMap
  wf : Memory.wf s.mem = true → Memory.wf u.mem = true
  rom : ∀ a : Word, s.cellKind a = .rom → Memory.read u.mem a.toNat = Memory.read s.mem a.toNat

theorem State.cellKind_congr {s u : State} (hmap : u.memMap = s.memMap) (a : Word) : u.cellKind a = s.cellKind a :=
  congrArg (kindIn · a) hmap

namespace State.MemoryKept

theorem of_eq {s u : State} (hmap : u.memMap = s.memMap) (hmem : u.mem = s.mem) : s.MemoryKept u where
  memMap := hmap
  wf h := hmem ▸ h
  rom _ _ := by rw [hmem]

theorem trans {s u w : State} (h : s.MemoryKept u) (k : u.MemoryKept w) : s.MemoryKept w where
  memMap := k.memMap.trans h.memMap
  wf hs := k.wf (h.wf hs)
  rom a ha := (k.rom a ((State.cellKind_congr h.memMap a).trans ha)).trans (h.rom a ha)

/-- Where the memory came from does not matter, only what it was. -/
theorem from_eq {s s' u : State} (h : s'.MemoryKept u) (hmap : s'.memMap = s.memMap) (hmem : s'.mem = s.mem) :
    s.MemoryKept u :=
  (of_eq hmap hmem).trans h

theorem complete {s u : State} (h : s.MemoryKept u) (cls : InstrClass) (eip0 : Bool) :
    s.MemoryKept (u.complete cls eip0) :=
  ⟨h.memMap, h.wf, h.rom⟩

theorem writeByte (s : State) (a : Word) (v : Byte) : s.MemoryKept (s.writeByte a v) where
  memMap := rfl
  wf := s.mem_wf_writeByte a v
  rom b hb := by
    rw [State.writeByte_mem, State.memAfterWrite]
    cases ha : s.cellKind a with
    | ram =>
      have hne : b.toNat ≠ a.toNat := by
        intro h
        rw [BitVec.eq_of_toNat_eq h, ha] at hb
        exact CellKind.noConfusion hb
      exact (Memory.read_write s.mem a.toNat b.toNat v).trans (if_neg hne)
    | rom => rfl
    | absent => rfl

theorem pushBytes (s : State) (vh vl : Byte) : s.MemoryKept (s.pushBytes vh vl) := by
  rw [State.pushBytes_eq]
  have hhigh := (of_eq rfl rfl : s.MemoryKept { s with sp := s.sp - 1 }).trans (writeByte _ (s.sp - 1) vh)
  refine (hhigh.trans ?_).trans (writeByte _ (s.sp - 1 - 1) vl)
  exact of_eq rfl rfl

end State.MemoryKept

/-! ### What the operation of an instruction keeps -/

/-- What the operation of `i` may do to a state: the fields that no instruction writes are as before, and each other
field is as before but for the instructions named there (R29, R36 to R39, R57). -/
structure OpKeeps (i : Instr) (s u : State) : Prop where
  variant : u.variant = s.variant
  fault : u.fault = s.fault
  pins : u.pins = s.pins
  schedule : u.schedule = s.schedule
  tick : u.tick = s.tick
  memory : s.MemoryKept u
  flags : (flagCode i).allows s.flags u.flags
  pc : i.isTransfer = false → u.pc = s.pc
  inte : i ≠ .di → u.inte = s.inte
  eiPending : i ≠ .di → u.eiPending = s.eiPending
  halted : i ≠ .hlt → u.halted = s.halted
  serial : i ≠ .sim → u.serial = s.serial
  portIn : (∀ p, i ≠ .inPort p) → u.portIn = s.portIn
  trace : (∀ p, i ≠ .inPort p) → (∀ p, i ≠ .outPort p) → i ≠ .sim → i ≠ .rim → u.trace = s.trace
  traceGrows : u.trace = s.trace ∨ ∃ e, u.trace = s.trace ++ [e]

theorem FlagCode.allows_self (c : FlagCode) (f : Flags) (h : c = .none) : c.allows f f := by
  subst h; rfl

namespace OpKeeps

/-- An operation that writes registers, SP, PC, flags and memory alone. -/
theorem of_core {i : Instr} {s u : State}
    (h : u = { s with regs := u.regs, sp := u.sp, pc := u.pc, flags := u.flags, mem := u.mem })
    (hm : s.MemoryKept u) (hf : (flagCode i).allows s.flags u.flags) (hp : i.isTransfer = false → u.pc = s.pc) :
    OpKeeps i s u where
  variant := (congrArg State.variant h :)
  fault := (congrArg State.fault h :)
  pins := (congrArg State.pins h :)
  schedule := (congrArg State.schedule h :)
  tick := (congrArg State.tick h :)
  memory := hm
  flags := hf
  pc := hp
  inte _ := (congrArg State.inte h :)
  eiPending _ := (congrArg State.eiPending h :)
  halted _ := (congrArg State.halted h :)
  serial _ := (congrArg State.serial h :)
  portIn _ := (congrArg State.portIn h :)
  trace _ _ _ _ := (congrArg State.trace h :)
  traceGrows := .inl (congrArg State.trace h :)

/-- An operation that writes registers and flags alone. -/
theorem of_regs {i : Instr} {s u : State} (h : u = { s with regs := u.regs, flags := u.flags })
    (hf : (flagCode i).allows s.flags u.flags) : OpKeeps i s u := by
  have hsp : u.sp = s.sp := (congrArg State.sp h :)
  have hpc : u.pc = s.pc := (congrArg State.pc h :)
  have hmem : u.mem = s.mem := (congrArg State.mem h :)
  refine of_core ?_ (.of_eq (congrArg State.memMap h :) hmem) hf (fun _ => hpc)
  rw [hsp, hpc, hmem]; exact h

/-- An operation that writes registers, SP and PC alone, PC in a control transfer alone. -/
theorem of_pointers {i : Instr} {s u : State} (h : u = { s with regs := u.regs, sp := u.sp, pc := u.pc })
    (hf : flagCode i = .none) (hp : i.isTransfer = false → u.pc = s.pc) : OpKeeps i s u := by
  have hflags : u.flags = s.flags := (congrArg State.flags h :)
  have hmem : u.mem = s.mem := (congrArg State.mem h :)
  refine of_core ?_ (.of_eq (congrArg State.memMap h :) hmem) (hflags ▸ FlagCode.allows_self _ _ hf) hp
  rw [hflags, hmem]; exact h

/-- An operation that stores, and writes registers, SP and PC besides. -/
theorem of_stores {i : Instr} {s u : State}
    (h : u = { s with regs := u.regs, sp := u.sp, pc := u.pc, mem := u.mem })
    (hm : s.MemoryKept u) (hf : flagCode i = .none) (hp : i.isTransfer = false → u.pc = s.pc) : OpKeeps i s u := by
  have hflags : u.flags = s.flags := (congrArg State.flags h :)
  refine of_core ?_ hm (hflags ▸ FlagCode.allows_self _ _ hf) hp
  rw [hflags]; exact h

end OpKeeps

/-! ### Every instruction defined on the part completes -/

/-- The instruction answers a next state: PC goes past its bytes, its operation runs, and the completion step of this
class ends it (R254, R235). -/
def Completes (cls : InstrClass) (i : Instr) (s : State) : Prop :=
  ∃ u, OpKeeps i (s.advance (BitVec.ofNat 16 (encode i).length)) u ∧ exec i s = .next (u.complete cls s.eiPending)

theorem Completes.of_runInstr {cls : InstrClass} {i : Instr} {s : State} {bs : List Byte} {op : State → State}
    (he : encode i = bs) (h : exec i s = runInstr cls (BitVec.ofNat 16 bs.length) op s)
    (hk : OpKeeps i (s.advance (BitVec.ofNat 16 bs.length)) (op (s.advance (BitVec.ofNat 16 bs.length)))) :
    Completes cls i s := by
  subst he
  exact ⟨_, hk, h⟩

theorem only85_of_i8085A {s : State} (hv : s.variant = .i8085A) (op : Byte) (run : State → Result) :
    only85 op run s = run s := by
  simp [only85, hv]

theorem only85_of_i8080 {s : State} (hv : s.variant = .i8080) (op : Byte) (run : State → Result) :
    only85 op run s = .fault (.undefinedOpcode op s.pc) := by
  simp [only85, hv]

/-- An instruction that only the 8085A has is defined there alone (R84). -/
theorem variant_of_only8085 {v : Variant} {i : Instr} (ho : i.only8085 = true) (h : i.definedOn v = true) :
    v = .i8085A := by
  cases v with
  | i8080 => cases i <;> simp_all [Instr.only8085, Instr.definedOn]
  | i8085A => rfl

/-! ### The shared operations -/

theorem State.memoryKept_callTo (s : State) (a : Word) : s.MemoryKept (s.callTo a) :=
  (State.MemoryKept.pushBytes s _ _).trans (.of_eq rfl rfl)

theorem State.memoryKept_storeHL (s : State) (a : Word) : s.MemoryKept (s.storeHL a) :=
  (State.MemoryKept.writeByte s a _).trans (State.MemoryKept.writeByte _ (a + 1) _)

theorem State.memoryKept_exchangeTopHL (s : State) : s.MemoryKept s.exchangeTopHL :=
  ((State.MemoryKept.writeByte s (s.sp + 1) _).trans (State.MemoryKept.writeByte _ s.sp _)).trans (.of_eq rfl rfl)

/-- A conditional operation keeps to what the operation itself keeps to, and so does the false case (R182). -/
theorem OpKeeps.ite {i : Instr} {s u : State} (b : Bool) (ht : OpKeeps i s u) (hf : OpKeeps i s s) :
    OpKeeps i s (if b then u else s) := by
  cases b
  · exact hf
  · exact ht

/-- An operation of the accumulator group clears the flags its code says (R29). -/
theorem State.accOp_allows (s : State) (o : AluOp) (k : AluOperand) (v : Byte) :
    (flagCode (k.instr o)).allows s.flags (s.accOp o v).flags := by
  rw [flagCode_alu]
  cases o with
  | add | adc | sub | sbb | cmp => exact trivial
  | ana => exact rfl
  | xra | ora => exact ⟨rfl, rfl⟩

theorem OpKeeps.accOp (s : State) (o : AluOp) (k : AluOperand) (v : Byte) : OpKeeps (k.instr o) s (s.accOp o v) :=
  .of_regs (s.accOp_frame o v) (s.accOp_allows o k v)

theorem OpKeeps.accRotate {i : Instr} (s : State) (r : Rotated) (h : flagCode i = .carry) :
    OpKeeps i s (s.accRotate r) :=
  .of_regs rfl (by rw [h]; exact ⟨rfl, rfl, rfl, rfl⟩)

theorem OpKeeps.setCarry {i : Instr} (s : State) (cy : Bool) (h : flagCode i = .carry) :
    OpKeeps i s (s.setCarry cy) :=
  .of_regs rfl (by rw [h]; exact ⟨rfl, rfl, rfl, rfl⟩)

theorem OpKeeps.setReg {i : Instr} (s : State) (x : Reg8) (v : Byte) (h : flagCode i = .none) :
    OpKeeps i s (s.setReg x v) :=
  .of_regs rfl (FlagCode.allows_self _ _ h)

theorem OpKeeps.setPair {i : Instr} (s : State) (p : RegPair) (v : Word) (h : flagCode i = .none) :
    OpKeeps i s (s.setPair p v) :=
  .of_pointers (by cases p <;> rfl) h (fun _ => s.setPair_pc p v)

theorem OpKeeps.writeByte {i : Instr} (s : State) (a : Word) (v : Byte) (h : flagCode i = .none) :
    OpKeeps i s (s.writeByte a v) :=
  .of_stores rfl (.writeByte s a v) h (fun _ => rfl)

theorem OpKeeps.pushBytes {i : Instr} (s : State) (vh vl : Byte) (h : flagCode i = .none) :
    OpKeeps i s (s.pushBytes vh vl) :=
  .of_stores rfl (.pushBytes s vh vl) h (fun _ => rfl)

/-- An operation that goes elsewhere belongs to a control transfer (R26). -/
theorem OpKeeps.transfer {i : Instr} {s u : State}
    (h : u = { s with regs := u.regs, sp := u.sp, pc := u.pc, mem := u.mem }) (hm : s.MemoryKept u)
    (hf : flagCode i = .none) (ht : i.isTransfer = true) : OpKeeps i s u :=
  .of_stores h hm hf (fun hn => absurd (hn.symm.trans ht) Bool.false_ne_true)

theorem OpKeeps.jumpTo {i : Instr} (s : State) (a : Word) (hf : flagCode i = .none) (ht : i.isTransfer = true) :
    OpKeeps i s (s.jumpTo a) :=
  .transfer rfl (.of_eq rfl rfl) hf ht

theorem OpKeeps.callTo {i : Instr} (s : State) (a : Word) (hf : flagCode i = .none) (ht : i.isTransfer = true) :
    OpKeeps i s (s.callTo a) :=
  .transfer rfl (s.memoryKept_callTo a) hf ht

theorem OpKeeps.returnFromCall {i : Instr} (s : State) (hf : flagCode i = .none) (ht : i.isTransfer = true) :
    OpKeeps i s s.returnFromCall :=
  .transfer rfl (.of_eq rfl rfl) hf ht

theorem OpKeeps.refl {i : Instr} (s : State) (hf : flagCode i = .none) : OpKeeps i s s :=
  .of_regs rfl (FlagCode.allows_self _ _ hf)

theorem State.setMasks_traceGrows (s : State) :
    s.setMasks.trace = s.trace ∨ ∃ e, s.setMasks.trace = s.trace ++ [e] := by
  unfold State.setMasks
  cases s.regs.a.getLsbD 6
  · exact .inl rfl
  · exact .inr ⟨_, rfl⟩

theorem OpKeeps.setMasks (s : State) : OpKeeps .sim s s.setMasks where
  variant := s.setMasks_variant
  fault := s.setMasks_fault
  pins := s.setMasks_pins
  schedule := s.setMasks_schedule
  tick := s.setMasks_tick
  memory := .of_eq s.setMasks_memMap s.setMasks_mem
  flags := s.setMasks_flags
  pc _ := s.setMasks_pc
  inte _ := s.setMasks_inte
  eiPending _ := s.setMasks_eiPending
  halted _ := s.setMasks_halted
  serial h := absurd rfl h
  portIn _ := s.setMasks_portIn
  trace _ _ h _ := absurd rfl h
  traceGrows := s.setMasks_traceGrows

/-- The operation of IN, OUT and RIM adds one event, and IN alone takes an answer (R57). -/
theorem OpKeeps.of_event {i : Instr} {s u : State} {e : IoEvent}
    (h : u = { s with regs := u.regs, portIn := u.portIn, trace := s.trace ++ [e] })
    (hi : i = .rim ∧ u.portIn = s.portIn ∨ (∃ p, i = .outPort p) ∧ u.portIn = s.portIn ∨ ∃ p, i = .inPort p) :
    OpKeeps i s u where
  variant := (congrArg State.variant h :)
  fault := (congrArg State.fault h :)
  pins := (congrArg State.pins h :)
  schedule := (congrArg State.schedule h :)
  tick := (congrArg State.tick h :)
  memory := .of_eq (congrArg State.memMap h :) (congrArg State.mem h :)
  flags := by
    have hf : u.flags = s.flags := (congrArg State.flags h :)
    rw [hf]
    obtain ⟨rfl, -⟩ | ⟨⟨p, rfl⟩, -⟩ | ⟨p, rfl⟩ := hi <;> exact FlagCode.allows_self _ _ rfl
  pc _ := (congrArg State.pc h :)
  inte _ := (congrArg State.inte h :)
  eiPending _ := (congrArg State.eiPending h :)
  halted _ := (congrArg State.halted h :)
  serial _ := (congrArg State.serial h :)
  portIn hn := by
    obtain ⟨-, hp⟩ | ⟨-, hp⟩ | ⟨p, rfl⟩ := hi
    · exact hp
    · exact hp
    · exact absurd rfl (hn p)
  trace hin hout _ hrim := by
    obtain ⟨rfl, -⟩ | ⟨⟨p, rfl⟩, -⟩ | ⟨p, rfl⟩ := hi
    · exact absurd rfl hrim
    · exact absurd rfl (hout p)
    · exact absurd rfl (hin p)
  traceGrows := .inr ⟨e, (congrArg State.trace h :)⟩

theorem OpKeeps.halt (s : State) : OpKeeps .hlt s s.halt where
  variant := rfl
  fault := rfl
  pins := rfl
  schedule := rfl
  tick := rfl
  memory := .of_eq rfl rfl
  flags := rfl
  pc _ := rfl
  inte _ := rfl
  eiPending _ := rfl
  halted h := absurd rfl h
  serial _ := rfl
  portIn _ := rfl
  trace _ _ _ _ := rfl
  traceGrows := .inl rfl

theorem OpKeeps.disableInterrupts (s : State) : OpKeeps .di s s.disableInterrupts where
  variant := rfl
  fault := rfl
  pins := rfl
  schedule := rfl
  tick := rfl
  memory := .of_eq rfl rfl
  flags := rfl
  pc _ := rfl
  inte h := absurd rfl h
  eiPending h := absurd rfl h
  halted _ := rfl
  serial _ := rfl
  portIn _ := rfl
  trace _ _ _ _ := rfl
  traceGrows := .inl rfl

/-! ### Form by form -/

/-- Every instruction but EI and DI that is defined on the part completes as an ordinary one. -/
theorem completes_ordinary (i : Instr) (s : State) (h : i.definedOn s.variant = true) (hei : i ≠ .ei)
    (hdi : i ≠ .di) : Completes .ordinary i s := by
  induction i using Instr.byForms with
  | h_movRegReg x y => exact .of_runInstr (encode_movRegReg x y) (exec_movRegReg x y s) (.setReg _ _ _ (by simp))
  | h_movRegMem x => exact .of_runInstr (encode_movRegMem x) (exec_movRegMem x s) (.setReg _ _ _ (by simp))
  | h_movMemReg x => exact .of_runInstr (encode_movMemReg x) (exec_movMemReg x s) (.writeByte _ _ _ (by simp))
  | h_mviReg x v => exact .of_runInstr (encode_mviReg x v) (exec_mviReg x v s) (.setReg _ _ _ (by simp))
  | h_mviM v => exact .of_runInstr rfl (exec_mviM v s) (.writeByte _ _ _ rfl)
  | h_lxi p w => exact .of_runInstr (encode_lxi p w) (exec_lxi p w s) (.setPair _ _ _ (by simp))
  | h_lda w => exact .of_runInstr rfl (exec_lda w s) (.setReg _ _ _ rfl)
  | h_sta w => exact .of_runInstr rfl (exec_sta w s) (.writeByte _ _ _ rfl)
  | h_lhld w => exact .of_runInstr rfl (exec_lhld w s) (.setPair _ _ _ rfl)
  | h_shld w =>
    exact .of_runInstr rfl (exec_shld w s) (.of_stores rfl (State.memoryKept_storeHL _ w) rfl fun _ => rfl)
  | h_ldax p => exact .of_runInstr (encode_ldax p) (exec_ldax p s) (.setReg _ _ _ (by simp))
  | h_stax p => exact .of_runInstr (encode_stax p) (exec_stax p s) (.writeByte _ _ _ (by simp))
  | h_xchg => exact .of_runInstr rfl (exec_xchg s) (.of_regs rfl rfl)
  | h_aluReg o x => exact .of_runInstr (encode_alu o (.reg x)) (exec_aluReg o x s) (.accOp _ o (.reg x) _)
  | h_aluMem o => exact .of_runInstr (encode_alu o .mem) (exec_aluMem o s) (.accOp _ o .mem _)
  | h_aluImm o v => exact .of_runInstr (encode_alu o (.imm v)) (exec_aluImm o v s) (.accOp _ o (.imm v) _)
  | h_inrReg x =>
    exact .of_runInstr (encode_inrReg x) (exec_inrReg x s)
      (.of_regs rfl (by simp [FlagCode.allows, State.incReg, incFlags]))
  | h_dcrReg x =>
    exact .of_runInstr (encode_dcrReg x) (exec_dcrReg x s)
      (.of_regs rfl (by simp [FlagCode.allows, State.decReg, decFlags]))
  | h_inrM =>
    exact .of_runInstr rfl (exec_inrM s)
      (.of_core rfl ((State.MemoryKept.writeByte _ _ _).trans (.of_eq rfl rfl)) rfl fun _ => rfl)
  | h_dcrM =>
    exact .of_runInstr rfl (exec_dcrM s)
      (.of_core rfl ((State.MemoryKept.writeByte _ _ _).trans (.of_eq rfl rfl)) rfl fun _ => rfl)
  | h_inx p => exact .of_runInstr (encode_inx p) (exec_inx p s) (.setPair _ _ _ (by simp))
  | h_dcx p => exact .of_runInstr (encode_dcx p) (exec_dcx p s) (.setPair _ _ _ (by simp))
  | h_dad p =>
    exact .of_runInstr (encode_dad p) (exec_dad p s)
      (.of_regs rfl (by rw [flagCode_dad]; exact ⟨rfl, rfl, rfl, rfl⟩))
  | h_daa => exact .of_runInstr rfl (exec_daa s) (.of_regs rfl trivial)
  | h_rlc => exact .of_runInstr rfl (exec_rlc s) (.accRotate _ _ rfl)
  | h_rrc => exact .of_runInstr rfl (exec_rrc s) (.accRotate _ _ rfl)
  | h_ral => exact .of_runInstr rfl (exec_ral s) (.accRotate _ _ rfl)
  | h_rar => exact .of_runInstr rfl (exec_rar s) (.accRotate _ _ rfl)
  | h_cma => exact .of_runInstr rfl (exec_cma s) (.setReg _ _ _ rfl)
  | h_cmc => exact .of_runInstr rfl (exec_cmc s) (.setCarry _ _ rfl)
  | h_stc => exact .of_runInstr rfl (exec_stc s) (.setCarry _ _ rfl)
  | h_jmp w => exact .of_runInstr rfl (exec_jmp w s) (.jumpTo _ _ rfl rfl)
  | h_jcond k w =>
    exact .of_runInstr (encode_jcond k w) (exec_jcond k w s)
      (.ite _ (.jumpTo _ _ (by simp) (by simp)) (.refl _ (by simp)))
  | h_pchl => exact .of_runInstr rfl (exec_pchl s) (.jumpTo _ _ rfl rfl)
  | h_call w => exact .of_runInstr rfl (exec_call w s) (.callTo _ _ rfl rfl)
  | h_ccond k w =>
    exact .of_runInstr (encode_ccond k w) (exec_ccond k w s)
      (.ite _ (.callTo _ _ (by simp) (by simp)) (.refl _ (by simp)))
  | h_ret => exact .of_runInstr rfl (exec_ret s) (.returnFromCall _ rfl rfl)
  | h_rcond k =>
    exact .of_runInstr (encode_rcond k) (exec_rcond k s)
      (.ite _ (.returnFromCall _ (by simp) (by simp)) (.refl _ (by simp)))
  | h_rst n => exact .of_runInstr (encode_rst n) (exec_rst n s) (.callTo _ _ (by simp) (by simp))
  | h_push p => exact .of_runInstr (encode_push p) (exec_push p s) (.pushBytes _ _ _ (by simp))
  | h_pushPsw => exact .of_runInstr rfl (exec_pushPsw s) (.pushBytes _ _ _ rfl)
  | h_pop p =>
    exact .of_runInstr (encode_pop p) (exec_pop p s)
      (.of_pointers (by cases p <;> rfl) (by simp) fun _ => by simp)
  | h_popPsw => exact .of_runInstr rfl (exec_popPsw s) (.of_core rfl (.of_eq rfl rfl) trivial fun _ => rfl)
  | h_xthl =>
    exact .of_runInstr rfl (exec_xthl s) (.of_stores rfl (State.memoryKept_exchangeTopHL _) rfl fun _ => rfl)
  | h_sphl => exact .of_runInstr rfl (exec_sphl s) (.setPair _ _ _ rfl)
  | h_inPort p => exact .of_runInstr rfl (exec_inPort p s) (.of_event rfl (.inr (.inr ⟨p, rfl⟩)))
  | h_outPort p => exact .of_runInstr rfl (exec_outPort p s) (.of_event rfl (.inr (.inl ⟨⟨p, rfl⟩, rfl⟩)))
  | h_ei => exact absurd rfl hei
  | h_di => exact absurd rfl hdi
  | h_hlt => exact .of_runInstr rfl (exec_hlt s) (.halt _)
  | h_nop => exact .of_runInstr rfl (exec_nop s) (.refl _ rfl)
  | h_sim =>
    have hx := (exec_sim s).trans (only85_of_i8085A (variant_of_only8085 rfl h) _ _)
    exact .of_runInstr rfl hx (.setMasks _)
  | h_rim =>
    have hx := (exec_rim s).trans (only85_of_i8085A (variant_of_only8085 rfl h) _ _)
    exact .of_runInstr rfl hx (.of_event rfl (.inl ⟨rfl, rfl⟩))
  | h_undefined op => exact absurd h Bool.false_ne_true

theorem completes_ei (s : State) : Completes .ei .ei s :=
  .of_runInstr rfl (exec_ei s) (.refl _ rfl)

theorem completes_di (s : State) : Completes .di .di s :=
  .of_runInstr rfl (exec_di s) (.disableInterrupts _)

/-- The class of an instruction for the completion step (R235). -/
def Instr.completionClass (i : Instr) : InstrClass := if i = .ei then .ei else if i = .di then .di else .ordinary

/-- Every instruction that is defined on the part completes (R250). -/
theorem completes_of_definedOn {i : Instr} {s : State} (h : i.definedOn s.variant = true) :
    Completes (Instr.completionClass i) i s := by
  unfold Instr.completionClass
  split
  · next hei => subst hei; exact completes_ei s
  · next hei =>
    split
    · next hdi => subst hdi; exact completes_di s
    · next hdi => exact completes_ordinary i s h hei hdi

/-- An instruction that answers a next state is defined on the part (R84). -/
theorem definedOn_of_exec_next {i : Instr} {s t : State} (h : exec i s = .next t) : i.definedOn s.variant = true := by
  cases hv : s.variant with
  | i8080 =>
    cases i with
    | undefined op => simp [exec_undefined] at h
    | rim => simp [exec_rim, only85_of_i8080 hv] at h
    | sim => simp [exec_sim, only85_of_i8080 hv] at h
    | _ => rfl
  | i8085A =>
    cases i with
    | undefined op => simp [exec_undefined] at h
    | _ => rfl

/-- Everything an instruction that answers a next state can have done: its operation, with PC past its bytes, and the
completion step of its class. -/
theorem exec_next {i : Instr} {s t : State} (h : exec i s = .next t) :
    ∃ u, OpKeeps i (s.advance (BitVec.ofNat 16 (encode i).length)) u ∧
      t = u.complete (Instr.completionClass i) s.eiPending := by
  obtain ⟨u, hu, ht⟩ := completes_of_definedOn (definedOn_of_exec_next h)
  exact ⟨u, hu, Host.Outcome.next.inj (h.symm.trans ht)⟩

/-! ### The statements over all instructions -/

/-- Settles O9: the operation keeps part, map, fault and (in no transfer) PC, and so does the completion step. -/
theorem definedInstructionsComplete : Obligations.DefinedInstructionsComplete := by
  intro i s h
  obtain ⟨u, hu, hx⟩ := completes_of_definedOn h
  exact ⟨_, hx, hu.pc, hu.variant, hu.memory.memMap, hu.fault⟩

/-- The completion step of an instruction other than DI whose operation leaves INTE and `ei_pending` alone (R235). -/
theorem completion_of_ne_di {i : Instr} {s u : State} (hdi : i ≠ .di) (hi : u.inte = s.inte)
    (he : u.eiPending = s.eiPending) :
    (u.complete (Instr.completionClass i) s.eiPending).inte = (s.inte || s.eiPending) ∧
    (u.complete (Instr.completionClass i) s.eiPending).eiPending = decide (i = .ei) := by
  by_cases hei : i = .ei
  · rw [Instr.completionClass, if_pos hei, State.complete_ei]
    simp [hei, hi]
  · rw [Instr.completionClass, if_neg hei, if_neg hdi, State.complete_ordinary]
    simp [hei, hi, he]

/-- After DI both are 0: its own operation clears them and its completion step raises neither (R235, R237). -/
theorem completion_of_di {s t : State} (h : exec .di s = .next t) : t.inte = false ∧ t.eiPending = false := by
  obtain rfl := Host.Outcome.next.inj ((exec_di s).symm.trans h)
  rw [State.complete_di]
  exact ⟨rfl, ite_self _⟩

/-- Settles O10: no operation but DI's writes INTE or `ei_pending`, so the completion step alone decides them. -/
theorem completionStep : Obligations.CompletionStep := by
  intro i s t h
  by_cases hdi : i = .di
  · subst hdi
    have hc := completion_of_di h
    exact ⟨fun _ => hc, fun hn => absurd rfl hn, fun he => Instr.noConfusion he, fun _ => hc.2⟩
  · obtain ⟨u, hu, rfl⟩ := exec_next h
    obtain ⟨hinte, hei⟩ := completion_of_ne_di (s := s) hdi (hu.inte hdi) (hu.eiPending hdi)
    exact ⟨fun he => absurd he hdi, fun _ => hinte, fun he => hei.trans (decide_eq_true he),
      fun he => hei.trans (decide_eq_false he)⟩

/-- Settles O11: the operation keeps what it does not write, and the completion step writes none of these. -/
theorem controlStateWriters : Obligations.ControlStateWriters := by
  intro i s t h
  obtain ⟨u, hu, rfl⟩ := exec_next h
  exact ⟨hu.serial, hu.halted, hu.portIn, hu.trace, hu.pins, hu.schedule, hu.tick, hu.fault⟩

/-- Settles O12: the operation keeps to the F code, and the completion step writes no flag. -/
theorem flagLegend : Obligations.FlagLegend := by
  intro i s t h
  obtain ⟨u, hu, rfl⟩ := exec_next h
  exact hu.flags

/-! ### Every step -/

/-- What every step that answers a next state keeps. -/
structure StepKeeps (s t : State) : Prop where
  variant : t.variant = s.variant
  memory : s.MemoryKept t
  schedule : t.schedule = s.schedule.tail
  traceGrows : t.trace = s.trace ∨ ∃ e, t.trace = s.trace ++ [e]

theorem StepKeeps.sample (s : State) : StepKeeps s s.sample :=
  ⟨rfl, .of_eq rfl rfl, rfl, .inl rfl⟩

theorem State.memoryKept_enterHandler (s : State) (a : Word) : s.MemoryKept (s.enterHandler a) :=
  ((State.MemoryKept.of_eq rfl rfl).trans (.pushBytes _ _ _)).trans (.of_eq rfl rfl)

/-- An acceptance saves PC on the stack and touches no other memory (R258, R259). -/
theorem StepKeeps.accept {s t : State} {req : Request} (h : s.sample.accept req = .next t) : StepKeeps s t := by
  rcases s.sample.accept_cases req with ⟨target, ht⟩ | ⟨-, ht⟩ | ⟨bs, -, -, ht⟩
  · obtain rfl := Host.Outcome.next.inj (ht.symm.trans h)
    exact ⟨rfl, (State.memoryKept_enterHandler _ target).from_eq rfl rfl, rfl, .inl rfl⟩
  · obtain rfl := Host.Outcome.next.inj (ht.symm.trans h)
    exact ⟨rfl, (State.memoryKept_enterHandler _ 0x003C#16).from_eq rfl rfl, rfl, .inl rfl⟩
  · exact absurd (ht.symm.trans h) nofun

theorem StepKeeps.exec {s t : State} {i : Instr} (h : exec i s.sample = .next t) : StepKeeps s t := by
  obtain ⟨u, hu, rfl⟩ := exec_next h
  exact ⟨hu.variant, (hu.memory.complete _ _).from_eq rfl rfl, hu.schedule, hu.traceGrows⟩

theorem stepKeeps_of_next {s t : State} (h : step s = .next t) : StepKeeps s t := by
  obtain ⟨-, ⟨req, -, ha⟩ | ⟨-, -, rfl⟩ | ⟨-, -, hx⟩⟩ := step_cases h
  · exact .accept ha
  · exact .sample s
  · exact .exec hx

/-- Settles O58: whatever the step did, it reached the new memory by stores, and a store keeps the form. -/
theorem memoryFormKept : Obligations.MemoryFormKept :=
  fun _ _ hs h => (stepKeeps_of_next h).memory.wf hs

/-- A rom cell reads as its content, whatever the counter of the free values (R55). -/
theorem State.readByte_rom {s : State} {a : Word} (h : s.cellKind a = .rom) :
    s.readByte a = Memory.read s.mem a.toNat := by
  simp [State.readByte, State.busRead, h]

/-- Settles O59: no store writes a rom cell. -/
theorem romImageKept : Obligations.RomImageKept := by
  intro image s t hs h
  have hk := stepKeeps_of_next h
  refine ⟨hk.variant, hk.memory.memMap, fun a ha => ?_⟩
  have hrom : s.cellKind a = .rom := (State.cellKind_congr hk.memory.memMap a).symm.trans ha
  calc t.readByte a = Memory.read t.mem a.toNat := State.readByte_rom ha
    _ = Memory.read s.mem a.toNat := hk.memory.rom a hrom
    _ = s.readByte a := (State.readByte_rom hrom).symm
    _ = image a := hs a hrom

/-- Settles O60: an instruction adds one event at most, an acceptance and a wait none. -/
theorem traceGrows : Obligations.TraceGrows :=
  fun _ _ h => (stepKeeps_of_next h).traceGrows

/-! ### Reset -/

/-- Settles O55, part by part. -/
theorem resetEvent : Obligations.ResetEvent := by
  intro s
  constructor <;> intro hv <;> simp [State.resetEvent, hv]

/-- Settles O56: the reset state field by field, and that sampling takes one report off the list. -/
theorem resetStateChosen : Obligations.ResetStateChosen :=
  ⟨rfl, rfl, fun x => by cases x <;> rfl, rfl, by decide, fun _ => ⟨rfl, rfl⟩, rfl, rfl, rfl, rfl,
    fun _ _ h => (stepKeeps_of_next h).schedule⟩

/-- Settles O57: the memory at reset lists no cell. -/
theorem memoryFormAtReset : Obligations.MemoryFormAtReset := State.reset_mem_wf

end Sys2Proof.Machine
end

section
/-!
PROOFS. The step (60_exceptions R250 to R254): what runs, what stands, and where the machine stops.
-/

namespace Sys2Proof.Machine

/-! ### Sampling -/

/-- The latch I7.5 after a boundary: set by an edge on an 8085A, else as before (R256). -/
theorem State.sample_i75 (s : State) :
    s.sample.serial.i75 =
      if s.variant = .i8085A then s.serial.i75 || (s.schedule.headD Pins.quiet).rst75 else s.serial.i75 := by
  rw [State.sample_serial]
  cases s.variant <;> rfl

/-- Sampling writes the latch alone of the 8085A's register. -/
theorem State.sample_serial_frame (s : State) : s.sample.serial = { s.serial with i75 := s.sample.serial.i75 } := by
  rw [State.sample_serial]
  cases s.variant <;> rfl

theorem State.sameProcessor_sample (s : State) : s.sameProcessor s.sample := by
  unfold State.sameProcessor
  rw [State.sample_serial_frame]
  exact ⟨rfl, rfl, rfl, rfl, rfl, rfl, rfl, rfl, rfl, rfl, rfl, rfl, rfl, rfl, rfl, rfl, rfl⟩

/-! ### A faulted run stands -/

theorem stepState_of_next {s t : State} (h : step s = .next t) : stepState s = t := by
  simp [stepState, h]

theorem stepState_of_fault {s : State} {f : Fault} (h : step s = .fault f) : stepState s = s.recordFault f := by
  simp [stepState, h]

theorem step_of_faulted {s : State} {f : Fault} (h : s.fault = some f) : step s = .fault f := by
  simp [step, h]

theorem State.recordFault_of_faulted {s : State} {f : Fault} (h : s.fault = some f) : s.recordFault f = s := by
  rw [State.recordFault, ← h]

theorem State.after_of_faulted {s : State} {f : Fault} (h : s.fault = some f) (n : Nat) : s.after n = s := by
  induction n with
  | zero => rfl
  | succ n ih => rw [State.after, stepState_of_fault (step_of_faulted h), State.recordFault_of_faulted h, ih]

/-! ### Where the machine stops -/

/-- The instructions that a part does not define (R84). -/
theorem definedOn_eq_false_iff (v : Variant) (i : Instr) :
    i.definedOn v = false ↔ (∃ op, i = .undefined op) ∨ (v = .i8080 ∧ (i = .rim ∨ i = .sim)) := by
  cases i with
  | undefined op => simp [Instr.definedOn]
  | rim | sim => cases v <;> decide
  | _ => simp [Instr.definedOn, Instr.only8085]

/-- An instruction faults exactly where it is not defined, with its opcode byte and PC (R250, R251). -/
theorem exec_fault_iff (i : Instr) (s : State) (f : Fault) :
    exec i s = .fault f ↔ i.definedOn s.variant = false ∧ f = .undefinedOpcode ((encode i).headD 0) s.pc := by
  cases hd : i.definedOn s.variant with
  | true =>
    obtain ⟨u, -, hx⟩ := completes_of_definedOn hd
    simp [hx]
  | false =>
    have hx : exec i s = .fault (.undefinedOpcode ((encode i).headD 0) s.pc) := by
      rcases (definedOn_eq_false_iff s.variant i).1 hd with ⟨op, rfl⟩ | ⟨hv, rfl | rfl⟩
      · exact exec_undefined op s
      · exact (exec_rim s).trans (only85_of_i8080 hv _ _)
      · exact (exec_sim s).trans (only85_of_i8080 hv _ _)
    simp [hx, eq_comm]

/-- The bytes whose instruction a part does not define (R84, R251). -/
theorem decodeAt_definedOn_eq_false_iff (v : Variant) (op b2 b3 : Byte) :
    (decodeAt op b2 b3).definedOn v = false ↔
      op ∈ undefinedBytes ∨ v = .i8080 ∧ (op = 0x20#8 ∨ op = 0x30#8) := by
  rw [definedOn_eq_false_iff]
  have hop := encode_decodeAt_headD op b2 b3
  constructor
  · rintro (⟨op', h⟩ | ⟨hv, h | h⟩) <;> rw [h] at hop
    · have hwf := (decodeAt_encode op b2 b3).1
      rw [h] at hwf
      obtain rfl : op' = op := hop
      exact .inl (List.contains_iff_mem.1 hwf)
    · exact .inr ⟨hv, .inl hop.symm⟩
    · exact .inr ⟨hv, .inr hop.symm⟩
  · rintro (h | ⟨hv, rfl | rfl⟩)
    · simp only [undefinedBytes, List.mem_cons, List.not_mem_nil, or_false] at h
      rcases h with rfl | rfl | rfl | rfl | rfl | rfl | rfl | rfl | rfl | rfl <;> exact .inl ⟨_, rfl⟩
    · exact .inr ⟨hv, .inl rfl⟩
    · exact .inr ⟨hv, .inr rfl⟩

/-! ### The statements -/

/-- Settles O5: the three bytes fetched are always enough to decode, so what they decode to is what the step runs. -/
theorem stepRunsDecoded : Obligations.StepRunsDecoded := by
  constructor
  · intro s i rest hf hn hh hd
    rw [decode_three] at hd
    obtain rfl := (Prod.mk.inj (Except.ok.inj hd)).1
    exact step_exec hf hn hh
  · intro s
    rw [← State.sample_i75, ← State.sample_serial_frame]
    exact State.sample_eq s

/-- Settles O6: a fault is recorded and stays, and a wait only samples. -/
theorem standingRuns : Obligations.StandingRuns :=
  ⟨fun _ _ h => stepState_of_fault h, fun _ _ n h => State.after_of_faulted h n,
    fun s hf hh hn => ⟨step_halted hf hn hh, s.sameProcessor_sample, s.sample_i75⟩⟩

/-- Settles O7: the step faults as the instruction it fetches does, and that one by its opcode byte alone. -/
theorem undefinedOpcodeRaised : Obligations.UndefinedOpcodeRaised := by
  intro s hf hn hh op pc0
  rw [step_exec hf hn hh, exec_fault_iff, State.fetchInstr, decodeAt_definedOn_eq_false_iff, encode_decodeAt_headD,
    Fault.undefinedOpcode.injEq]
  constructor
  · rintro ⟨hu, rfl, rfl⟩
    exact ⟨rfl, rfl, hu⟩
  · rintro ⟨rfl, rfl, hu⟩
    exact ⟨hu, rfl, rfl⟩

/-- Settles O8, by the one meaning of each. -/
theorem undefinedInstructionsFault : Obligations.UndefinedInstructionsFault :=
  fun s => ⟨fun op => exec_undefined op s, fun hv => (exec_rim s).trans (only85_of_i8080 hv _ _),
    fun hv => (exec_sim s).trans (only85_of_i8080 hv _ _)⟩

end Sys2Proof.Machine
end

section
/-!
PROOFS. Registers, flags and the arithmetic helpers (10_state R22 to R35, 41_arithmetic R120, R121, R141, R147), as
exact arithmetic on the values of the bytes.
-/

namespace Sys2Proof.Machine

/-! ### Registers and pairs -/

theorem State.pair_setPair_same (s : State) (p : RegPair) (v : Word) : (s.setPair p v).pair p = v := by
  cases p with
  | bc | de | hl => exact joinBytes_high_low v
  | sp => rfl

theorem State.pair_setPair_other (s : State) {p q : RegPair} (v : Word) (h : q ≠ p) :
    (s.setPair p v).pair q = s.pair q := by
  cases p with
  | bc => cases q with | bc => exact absurd rfl h | _ => rfl
  | de => cases q with | de => exact absurd rfl h | _ => rfl
  | hl => cases q with | hl => exact absurd rfl h | _ => rfl
  | sp => cases q with | sp => exact absurd rfl h | _ => rfl

/-- Settles O13: a pair is written as its two bytes and read back as their join. -/
theorem pairsAreViews : Obligations.PairsAreViews := by
  intro s
  refine ⟨⟨joinBytes_toNat _ _, joinBytes_toNat _ _, joinBytes_toNat _ _⟩, fun p q v => ?_, fun p v => ?_,
    fun x y v => ?_⟩
  · split
    · next h => rw [h, State.pair_setPair_same]
    · next h => exact State.pair_setPair_other s v h
  · cases p <;> exact ⟨rfl, rfl⟩
  · split
    · next h => rw [h, Regs.get_set_same]
    · next h => exact Regs.get_set_other s.regs x y v h

/-! ### Flags -/

/-- The byte F, bit by bit (R28). -/
theorem Flags.toByte_bits (f : Flags) :
    f.toByte.getLsbD 7 = f.s ∧ f.toByte.getLsbD 6 = f.z ∧ f.toByte.getLsbD 5 = false ∧ f.toByte.getLsbD 4 = f.ac ∧
    f.toByte.getLsbD 3 = false ∧ f.toByte.getLsbD 2 = f.p ∧ f.toByte.getLsbD 1 = true ∧ f.toByte.getLsbD 0 = f.cy := by
  obtain ⟨s, z, ac, p, cy⟩ := f
  revert s z ac p cy
  decide

@[simp] theorem Flags.ofByte_toByte (f : Flags) : Flags.ofByte f.toByte = f := by
  obtain ⟨hs, hz, -, hac, -, hp, -, hcy⟩ := f.toByte_bits
  rw [Flags.ofByte, hs, hz, hac, hp, hcy]

/-- The constants of F: two bits that are always 0 and one that is always 1 (R28). -/
theorem Flags.toByte_constants (f : Flags) : f.toByte &&& 0x2A#8 = 0x02#8 := by
  obtain ⟨s, z, ac, p, cy⟩ := f
  revert s z ac p cy
  decide

/-- What is left of a byte read into F: the five flag bits and the constants. -/
theorem Flags.toByte_ofByte (b : Byte) : (Flags.ofByte b).toByte = (b &&& 0xD5#8) ||| 0x02#8 := by
  obtain ⟨h7, h6, h5, h4, h3, h2, h1, h0⟩ := (Flags.ofByte b).toByte_bits
  apply BitVec.eq_of_getLsbD_eq
  intro i hi
  rw [BitVec.getLsbD_or, BitVec.getLsbD_and]
  interval_cases i <;> simp only [h0, h1, h2, h3, h4, h5, h6, h7] <;> simp [Flags.ofByte]

/-- Settles O14, from the eight bits of F. -/
theorem flagByte : Obligations.FlagByte := by
  refine ⟨fun f => ?_, fun b => ⟨rfl, Flags.toByte_ofByte b⟩⟩
  obtain ⟨h7, h6, h5, h4, h3, h2, h1, h0⟩ := f.toByte_bits
  exact ⟨h7, h6, h5, h4, h3, h2, h1, h0, f.toByte_constants, f.ofByte_toByte⟩

/-- Settles O15: each condition compares one flag with one value. -/
theorem conditions : Obligations.Conditions :=
  ⟨rfl, fun _ => ⟨beq_iff_eq, beq_iff_eq, beq_iff_eq, beq_iff_eq, beq_iff_eq, beq_iff_eq, beq_iff_eq, beq_iff_eq⟩⟩

/-- S of a result (R30). -/
theorem sign_eq (v : Byte) : v.getLsbD 7 = decide (v.toNat ≥ 128) := BitVec.getLsbD_last v

/-- Z of a result (R30). -/
theorem zero_eq (v : Byte) : (v == 0) = decide (v.toNat = 0) := by
  rw [Bool.eq_iff_iff, beq_iff_eq, decide_eq_true_iff, ← BitVec.toNat_inj]
  rfl

/-- The two ways to count the one bits of a byte agree. -/
theorem oneBits_eq_onesCount (v : Byte) : oneBits v = onesCount v := by
  have hlist : oneBits v = [0, 1, 2, 3, 4, 5, 6, 7].countP v.getLsbD := List.countP_eq_length_filter.symm
  rw [hlist, onesCount]
  simp only [List.countP_cons, List.countP_nil, Bool.toNat, Bool.cond_eq_ite]
  omega

/-- P of a result (R31). -/
theorem par_eq (v : Byte) : par v = decide (oneBits v % 2 = 0) := by
  rw [oneBits_eq_onesCount, par, Bool.eq_iff_iff, beq_iff_eq, decide_eq_true_iff]

/-! ### ADD8 and SUB8 -/

/-- The ninth bit of a nine-bit value says whether it exceeds a byte. -/
theorem getLsbD_eight (x : BitVec 9) : x.getLsbD 8 = decide (x.toNat ≥ 256) := BitVec.getLsbD_last x

/-- The nine-bit sum of R120 is the exact sum. -/
theorem sum9_toNat (a v : Byte) (c : Bool) :
    (a.setWidth 9 + v.setWidth 9 + (BitVec.ofBool c).setWidth 9).toNat = a.toNat + v.toNat + c.toNat := by
  have ha := a.isLt
  have hv := v.isLt
  have hc := c.toNat_lt
  simp only [BitVec.toNat_add, BitVec.toNat_setWidth, BitVec.toNat_ofBool]
  omega

/-- The nine-bit difference of R121 is the exact difference modulo 512. -/
theorem diff9_toNat (a v : Byte) (b : Bool) :
    (a.setWidth 9 - v.setWidth 9 - (BitVec.ofBool b).setWidth 9).toNat = (a.toNat + 512 - v.toNat - b.toNat) % 512 := by
  have ha := a.isLt
  have hv := v.isLt
  have hb := b.toNat_lt
  simp only [BitVec.toNat_sub, BitVec.toNat_setWidth, BitVec.toNat_ofBool]
  omega

theorem add8_res (a v : Byte) (c : Bool) : (add8 a v c).res.toNat = (a.toNat + v.toNat + c.toNat) % 256 := by
  rw [← sum9_toNat]
  exact BitVec.toNat_setWidth 8 _

theorem add8_cy (a v : Byte) (c : Bool) :
    (add8 a v c).flags.cy = decide (a.toNat + v.toNat + c.toNat > 255) := by
  rw [← sum9_toNat]
  exact getLsbD_eight _

theorem add8_ac (a v : Byte) (c : Bool) :
    (add8 a v c).flags.ac = decide (a.toNat % 16 + v.toNat % 16 + c.toNat > 15) := rfl

theorem add8_s (a v : Byte) (c : Bool) : (add8 a v c).flags.s = decide ((add8 a v c).res.toNat ≥ 128) := sign_eq _

theorem add8_p (a v : Byte) (c : Bool) : (add8 a v c).flags.p = decide (oneBits (add8 a v c).res % 2 = 0) := par_eq _

theorem sub8_res (a v : Byte) (b : Bool) :
    (sub8 a v b).res.toNat = (a.toNat + 512 - v.toNat - b.toNat) % 256 := by
  have h : (sub8 a v b).res.toNat = (a.toNat + 512 - v.toNat - b.toNat) % 512 % 256 := by
    rw [← diff9_toNat]
    exact BitVec.toNat_setWidth 8 _
  omega

theorem sub8_cy (a v : Byte) (b : Bool) : (sub8 a v b).flags.cy = decide (a.toNat < v.toNat + b.toNat) := by
  have h : (sub8 a v b).flags.cy = decide ((a.toNat + 512 - v.toNat - b.toNat) % 512 ≥ 256) := by
    rw [← diff9_toNat]
    exact getLsbD_eight _
  have ha := a.isLt
  have hv := v.isLt
  have hb := b.toNat_lt
  rw [h, decide_eq_decide]
  omega

theorem sub8_ac (a v : Byte) (b : Bool) :
    (sub8 a v b).flags.ac = decide (a.toNat % 16 + (~~~v).toNat % 16 + (1 - b.toNat) > 15) := rfl

theorem sub8_s (a v : Byte) (b : Bool) : (sub8 a v b).flags.s = decide ((sub8 a v b).res.toNat ≥ 128) := sign_eq _

theorem sub8_p (a v : Byte) (b : Bool) : (sub8 a v b).flags.p = decide (oneBits (sub8 a v b).res % 2 = 0) := par_eq _

/-- No carry out of bit 3 of `a + ~v + (1 - b)` is a borrow out of the low digit (R121). -/
theorem low_digit_borrow_iff (a v : Byte) (b : Bool) :
    a.toNat % 16 + (~~~v).toNat % 16 + (1 - b.toNat) > 15 ↔ a.toNat % 16 ≥ v.toNat % 16 + b.toNat := by
  have hv := v.isLt
  have hb := b.toNat_lt
  rw [BitVec.toNat_not]
  omega

/-- Settles O16: each flag copies a bit of the exact nine-bit sum, or of the result. -/
theorem add8Exact : Obligations.Add8Exact := by
  intro a v c
  refine ⟨add8_res a v c, ?_, ?_, ?_, beq_iff_eq, ?_⟩
  · rw [add8_cy, decide_eq_true_iff]
  · rw [add8_ac, decide_eq_true_iff]
  · rw [add8_s, decide_eq_true_iff]
  · rw [add8_p, decide_eq_true_iff]

/-- Settles O17: the ninth bit of the nine-bit difference is the borrow. -/
theorem sub8Exact : Obligations.Sub8Exact := by
  intro a v b
  refine ⟨sub8_res a v b, ?_, ?_, ?_, ?_, beq_iff_eq, ?_⟩
  · rw [sub8_cy, decide_eq_true_iff]
  · rw [sub8_ac, decide_eq_true_iff]
  · rw [sub8_ac, decide_eq_true_iff, low_digit_borrow_iff]
  · rw [sub8_s, decide_eq_true_iff]
  · rw [sub8_p, decide_eq_true_iff]

/-! ### Chains of bytes -/

/-- A byte's result and its carry are the exact sum. -/
theorem add8_exact_sum (x y : Byte) (c : Bool) :
    (add8 x y c).res.toNat + 256 * (add8 x y c).flags.cy.toNat = x.toNat + y.toNat + c.toNat := by
  have hx := x.isLt
  have hy := y.isLt
  have hc := c.toNat_lt
  rw [add8_res, add8_cy]
  by_cases h : x.toNat + y.toNat + c.toNat > 255 <;> simp [h] <;> omega

/-- A byte's result, what was taken away and its borrow are the exact minuend. -/
theorem sub8_exact_difference (x y : Byte) (b : Bool) :
    (sub8 x y b).res.toNat + y.toNat + b.toNat = x.toNat + 256 * (sub8 x y b).flags.cy.toNat := by
  have hx := x.isLt
  have hy := y.isLt
  have hb := b.toNat_lt
  rw [sub8_res, sub8_cy]
  by_cases h : x.toNat < y.toNat + b.toNat <;> simp [h] <;> omega

theorem bytesValue_addChain (l : List (Byte × Byte)) (c : Bool) :
    bytesValue (addChain c l).1 + 256 ^ l.length * (addChain c l).2.toNat =
      bytesValue (l.map Prod.fst) + bytesValue (l.map Prod.snd) + c.toNat := by
  induction l generalizing c with
  | nil => simp [addChain, bytesValue]
  | cons xy l ih =>
    obtain ⟨x, y⟩ := xy
    have hlow := add8_exact_sum x y c
    have hrest := ih (add8 x y c).flags.cy
    simp only [addChain, bytesValue, List.map_cons, List.length_cons, pow_succ', mul_assoc]
    omega

theorem bytesValue_subChain (l : List (Byte × Byte)) (c : Bool) :
    bytesValue (subChain c l).1 + bytesValue (l.map Prod.snd) + c.toNat =
      bytesValue (l.map Prod.fst) + 256 ^ l.length * (subChain c l).2.toNat := by
  induction l generalizing c with
  | nil => simp [subChain, bytesValue]
  | cons xy l ih =>
    obtain ⟨x, y⟩ := xy
    have hlow := sub8_exact_difference x y c
    have hrest := ih (sub8 x y c).flags.cy
    simp only [subChain, bytesValue, List.map_cons, List.length_cons, pow_succ', mul_assoc]
    omega

/-- Settles O18, by induction on the bytes from the lowest up. -/
theorem chainsExact : Obligations.ChainsExact :=
  fun l c => ⟨bytesValue_addChain l c, bytesValue_subChain l c⟩

/-! ### DAA -/

theorem daaLow_iff (a : Byte) (f : Flags) : daaLow a f = true ↔ f.ac = true ∨ a.toNat % 16 > 9 := by
  simp [daaLow, lowNibble]

theorem daaHigh_iff (a : Byte) (f : Flags) :
    daaHigh a f = true ↔ f.cy = true ∨ a.toNat / 16 > 9 ∨ (a.toNat / 16 ≥ 9 ∧ a.toNat % 16 > 9) := by
  simp [daaHigh, lowNibble, highNibble, or_assoc]

theorem daaCorr_toNat (a : Byte) (f : Flags) :
    (daaCorr a f).toNat = (if daaLow a f = true then 6 else 0) + (if daaHigh a f = true then 96 else 0) := by
  unfold daaCorr
  cases daaLow a f <;> cases daaHigh a f <;> rfl

theorem daa8_res (a : Byte) (f : Flags) : (daa8 a f).res.toNat = (a.toNat + (daaCorr a f).toNat) % 256 :=
  add8_res a (daaCorr a f) false

/-- CY after DAA: it was 1, or 60h was added, which a CY of 1 makes sure of (R147). -/
theorem daa8_cy (a : Byte) (f : Flags) : (daa8 a f).flags.cy = daaHigh a f := by
  have h : (daa8 a f).flags.cy = (f.cy || daaHigh a f) := rfl
  rw [h, daaHigh]
  cases f.cy <;> rfl

/-- Settles O19: whether 06h and 60h are added is whether the low digits, and then the high ones, made a ten. -/
theorem decimalSum : Obligations.DecimalSum := by
  intro a v c ⟨hah, hal⟩ ⟨hvh, hvl⟩
  have hc := c.toNat_lt
  have hres := add8_res a v c
  have hlow := daaLow_iff (add8 a v c).res (add8 a v c).flags
  have hhigh := daaHigh_iff (add8 a v c).res (add8 a v c).flags
  have hdaa := daa8_res (add8 a v c).res (add8 a v c).flags
  rw [daaCorr_toNat] at hdaa
  rw [add8_ac, decide_eq_true_iff] at hlow
  rw [add8_cy, decide_eq_true_iff] at hhigh
  rw [daa8_cy]
  unfold isPackedDecimal packedDecimal
  generalize (daa8 (add8 a v c).res (add8 a v c).flags).res.toNat = d at *
  generalize (add8 a v c).res.toNat = r at *
  cases hl : daaLow (add8 a v c).res (add8 a v c).flags <;>
    cases hh : daaHigh (add8 a v c).res (add8 a v c).flags <;>
      simp only [hl, hh, Bool.false_eq_true, if_true, if_false, true_iff, false_iff, Bool.toNat_true,
        Bool.toNat_false] at * <;>
      omega

end Sys2Proof.Machine
end

section
/-!
PROOFS. Data transfer (40_data_transfer, R100 to R113). For each operation a form may run (a register write, a pair
write, a store) one lemma gives the whole next state; each statement names the address or the value.
-/

namespace Sys2Proof.Machine

/-! ### Reads see neither PC nor the registers -/

@[simp] theorem State.readByte_advance (s : State) (len a : Word) : (s.advance len).readByte a = s.readByte a :=
  State.readByte_congr rfl rfl rfl a

@[simp] theorem State.readWord_advance (s : State) (len a : Word) : (s.advance len).readWord a = s.readWord a := by
  simp [State.readWord]

@[simp] theorem State.mOperand_advance (s : State) (len : Word) : (s.advance len).mOperand = s.readByte s.hl :=
  State.readByte_congr rfl rfl rfl s.hl

@[simp] theorem State.topWord_advance (s : State) (len : Word) : (s.advance len).topWord = s.topWord :=
  s.readWord_advance len s.sp

@[simp] theorem State.pair_advance (s : State) (len : Word) (p : RegPair) : (s.advance len).pair p = s.pair p := by
  cases p <;> rfl

@[simp] theorem State.indexPair_advance (s : State) (len : Word) (p : IndexPair) :
    (s.advance len).indexPair p = s.indexPair p := by
  cases p <;> rfl

/-! ### The whole next state, by operation -/

theorem ordinary_setReg (len : Word) (x : Reg8) (v : State → Byte) (s : State) :
    ordinary len (fun t => t.setReg x (v t)) s =
      .next { s.retired len with regs := s.regs.set x (v (s.advance len)) } :=
  ordinary_retired len _ s rfl rfl

theorem ordinary_setPair (len : Word) (p : RegPair) (v : State → Word) (s : State) :
    ordinary len (fun t => t.setPair p (v t)) s = .next ((s.retired len).setPair p (v (s.advance len))) := by
  cases p <;> exact ordinary_retired len _ s rfl rfl

theorem ordinary_writeByte (len : Word) (a : State → Word) (v : State → Byte) (s : State) :
    ∃ t, ordinary len (fun t => t.writeByte (a t) (v t)) s = .next t ∧
      s.storedByte t (s.retired len) (a (s.advance len)) (v (s.advance len)) :=
  ⟨_, ordinary_retired len _ s rfl rfl, rfl,
    fun b => (State.readByte_congr rfl rfl rfl b).trans (s.readByte_writeByte (a (s.advance len)) b _)⟩

/-- SHLD's two stores, the low byte first (R110). -/
theorem ordinary_storeHL (len a : Word) (s : State) :
    ∃ t, ordinary len (fun t => t.storeHL a) s = .next t ∧
      s.storedWord t (s.retired len) a s.regs.l s.regs.h :=
  ⟨_, ordinary_retired len _ s rfl rfl, rfl,
    fun b => (State.readByte_congr rfl rfl rfl b).trans (s.readByte_twoStores a s.regs.l s.regs.h b)⟩

/-! ### What a statement about a stored word gives -/

/-- The two bytes read back, where both cells are ram. -/
theorem State.storedWord_read {s t u : State} {a : Word} {lo hi : Byte} (h : s.storedWord t u a lo hi)
    (h0 : s.cellKind a = .ram) (h1 : s.cellKind (a + 1) = .ram) : t.readByte a = lo ∧ t.readByte (a + 1) = hi := by
  have hne : a + 1 ≠ a := by bv_omega
  exact ⟨(h.2 a).trans (if_pos ⟨rfl, h0⟩),
    (h.2 (a + 1)).trans ((if_neg fun hc => hne hc.1).trans (if_pos ⟨rfl, h1⟩))⟩

/-- An instruction that is known to answer one next state answers no other. -/
theorem exec_next_unique {i : Instr} {s t : State} {p : State → Prop} (h : ∃ t, exec i s = .next t ∧ p t)
    (ht : exec i s = .next t) : p t := by
  obtain ⟨t', ht', hp⟩ := h
  exact Host.Outcome.next.inj (ht'.symm.trans ht) ▸ hp

/-- Where there is a cell, a fetch and a data read give the same byte (R9, R55). -/
theorem State.fetchByte_eq_readByte {s : State} {a : Word} (h : s.cellKind a ≠ .absent) :
    s.fetchByte a = s.readByte a := by
  unfold State.fetchByte State.readByte State.busRead
  cases hk : s.cellKind a with
  | ram | rom => rfl
  | absent => exact absurd hk h

/-! ### The statements -/

/-- Settles O20: each is a register write of a byte read where PC does not matter. -/
theorem loadsOfAByte : Obligations.LoadsOfAByte := by
  intro s
  refine ⟨fun x => ⟨encode_movRegMem x, ?_⟩, fun a => ⟨rfl, ?_⟩, fun p => ⟨encode_ldax p, ?_⟩⟩
  · rw [exec_movRegMem, ordinary_setReg, State.mOperand_advance]
  · rw [exec_lda, ordinary_setReg, State.readByte_advance]
    rfl
  · rw [exec_ldax, ordinary_setReg, State.readByte_advance, State.indexPair_advance]
    rfl

/-- Settles O21: each is a register or pair write. -/
theorem registerMoves : Obligations.RegisterMoves := by
  intro s
  refine ⟨fun x y => ⟨encode_movRegReg x y, ?_⟩, fun x v => ⟨encode_mviReg x v, ?_⟩, fun p v => ⟨encode_lxi p v, ?_⟩⟩
  · rw [exec_movRegReg, ordinary_setReg]
    rfl
  · rw [exec_mviReg, ordinary_setReg]
  · rw [exec_lxi, ordinary_setPair]

/-- Settles O22: each is one store, at the address its form names. -/
theorem storesOfAByte : Obligations.StoresOfAByte := by
  intro s
  refine ⟨fun x => ⟨encode_movMemReg x, ?_⟩, fun v => ⟨rfl, ?_⟩, fun a => ⟨rfl, ?_⟩, fun p => ⟨encode_stax p, ?_⟩⟩
  · rw [exec_movMemReg]
    exact ordinary_writeByte 1 State.hl (·.reg x) s
  · exact ordinary_writeByte 2 State.hl (fun _ => v) s
  · exact ordinary_writeByte 3 (fun _ => a) (·.reg .a) s
  · rw [exec_stax, ← s.indexPair_advance 1 p]
    exact ordinary_writeByte 1 (·.indexPair p) (·.reg .a) s

/-- Settles O23: a pair write, a store of two bytes, an exchange of registers. -/
theorem wordTransfers : Obligations.WordTransfers := by
  intro s
  refine ⟨fun a => ⟨rfl, ?_⟩, fun a => ⟨rfl, ordinary_storeHL 3 a s⟩, rfl, ?_⟩
  · rw [exec_lhld, ordinary_setPair, State.readWord_advance, State.setPair, State.readWord, highByte_joinBytes,
      lowByte_joinBytes]
    rfl
  · rw [exec_xchg, ordinary_retired _ _ _ rfl rfl]
    rfl

/-- What LDA leaves in A. -/
theorem exec_lda_a (a : Word) (t : State) : ∃ u, exec (.lda a) t = .next u ∧ u.regs.a = t.readByte a :=
  ⟨_, ((loadsOfAByte t).2.1 a).2, rfl⟩

/-- Settles O24: SHLD's two bytes are read back by the two LDA. -/
theorem storedWordIsLittleEndian : Obligations.StoredWordIsLittleEndian := by
  intro s t a h0 h1 ht
  have hstored := exec_next_unique ((wordTransfers s).2.1 a).2 ht
  obtain ⟨hlow, hhigh⟩ := State.storedWord_read hstored h0 h1
  exact ⟨hlow ▸ exec_lda_a a t, hhigh ▸ exec_lda_a (a + 1) t⟩

/-- Settles O25: the stored cell is ram, where a fetch gives what a data read gives. -/
theorem storeSeenByNextFetch : Obligations.StoreSeenByNextFetch := by
  intro s t hram ht
  obtain ⟨hframe, hread⟩ := exec_next_unique ((storesOfAByte s).2.2.1 (s.pc + 3)).2 ht
  have hpc : t.pc = s.pc + 3 := (congrArg State.pc hframe :)
  have hmap : t.memMap = s.memMap := (congrArg State.memMap hframe :)
  have hkind : t.cellKind (s.pc + 3) = .ram := (State.cellKind_congr hmap _).trans hram
  refine ⟨hpc, ?_⟩
  rw [hpc, State.fetchByte_eq_readByte (by rw [hkind]; exact CellKind.noConfusion), hread, if_pos ⟨rfl, hram⟩]

end Sys2Proof.Machine
end

section
/-!
PROOFS. Arithmetic instructions (41_arithmetic, R134 to R147).
-/

namespace Sys2Proof.Machine

/-! ### The flags as the statements write them -/

theorem incFlags_eq (res : Byte) (old : Flags) :
    incFlags res old =
      { s := decide (res.toNat ≥ 128), z := decide (res.toNat = 0), ac := decide (res.toNat % 16 = 0),
        p := decide (oneBits res % 2 = 0), cy := old.cy } := by
  rw [incFlags, sign_eq, zero_eq, par_eq]
  rfl

theorem decFlags_eq (res : Byte) (old : Flags) :
    decFlags res old =
      { s := decide (res.toNat ≥ 128), z := decide (res.toNat = 0), ac := decide (res.toNat % 16 ≠ 15),
        p := decide (oneBits res % 2 = 0), cy := old.cy } := by
  have hac : (!(lowNibble res == 15)) = decide (res.toNat % 16 ≠ 15) := by
    rw [decide_not]
    rfl
  rw [decFlags, sign_eq, zero_eq, par_eq, hac]

theorem logicFlags_eq (res : Byte) (ac : Bool) :
    logicFlags res ac =
      { s := decide (res.toNat ≥ 128), z := decide (res.toNat = 0), ac := ac, p := decide (oneBits res % 2 = 0),
        cy := false } := by
  rw [logicFlags, sign_eq, zero_eq, par_eq]

/-- Adding 1 and taking 1 away, modulo 2^8. -/
theorem byte_add_one_toNat (v : Byte) : (v + 1).toNat = (v.toNat + 1) % 256 := BitVec.toNat_add v 1

theorem byte_sub_one_toNat (v : Byte) : (v - 1).toNat = (v.toNat + 255) % 256 := by
  rw [BitVec.toNat_sub, Nat.add_comm]
  rfl

theorem word_add_one_toNat (w : Word) : (w + 1).toNat = (w.toNat + 1) % 65536 := BitVec.toNat_add w 1

theorem word_sub_one_toNat (w : Word) : (w - 1).toNat = (w.toNat + 65535) % 65536 := by
  rw [BitVec.toNat_sub, Nat.add_comm]
  rfl

/-! ### INR and DCR -/

/-- Settles O28, the flags rewritten as tests on the result. -/
theorem registerSteps : Obligations.RegisterSteps := by
  intro x s
  refine ⟨⟨encode_inrReg x, s.regs.get x + 1, byte_add_one_toNat _, ?_⟩,
    encode_dcrReg x, s.regs.get x - 1, byte_sub_one_toNat _, ?_⟩
  · rw [exec_inrReg, ordinary_retired _ _ _ rfl rfl, ← incFlags_eq]
    rfl
  · rw [exec_dcrReg, ordinary_retired _ _ _ rfl rfl, ← decFlags_eq]
    rfl

/-- The store of INR M and DCR M, with the flags that come from the computed value (R135, R137). -/
theorem State.storedByte_stepM (s : State) (res : Byte) (f : Flags) :
    s.storedByte { ({ s.retired 1 with flags := f } : State).writeByte s.hl res with flags := f }
      { s.retired 1 with flags := f } s.hl res :=
  ⟨rfl, fun b => (State.readByte_congr rfl rfl rfl b).trans (s.readByte_writeByte s.hl b res)⟩

theorem exec_inrM_next (s : State) :
    exec .inrM s =
      .next { ({ s.retired 1 with flags := incFlags (s.readByte s.hl + 1) s.flags } : State).writeByte s.hl
                (s.readByte s.hl + 1) with
        flags := incFlags (s.readByte s.hl + 1) s.flags } := by
  rw [exec_inrM, ordinary_retired _ _ _ rfl rfl]
  rfl

theorem exec_dcrM_next (s : State) :
    exec .dcrM s =
      .next { ({ s.retired 1 with flags := decFlags (s.readByte s.hl - 1) s.flags } : State).writeByte s.hl
                (s.readByte s.hl - 1) with
        flags := decFlags (s.readByte s.hl - 1) s.flags } := by
  rw [exec_dcrM, ordinary_retired _ _ _ rfl rfl]
  rfl

/-- Settles O29: one store, and the flags of the computed value whether or not the store was lost. -/
theorem memorySteps : Obligations.MemorySteps := by
  intro s
  refine ⟨⟨rfl, _, _, byte_add_one_toNat _, exec_inrM_next s, ?_⟩,
    rfl, _, _, byte_sub_one_toNat _, exec_dcrM_next s, ?_⟩
  · rw [← incFlags_eq _ s.flags]
    exact s.storedByte_stepM _ _
  · rw [← decFlags_eq _ s.flags]
    exact s.storedByte_stepM _ _

/-! ### Pairs -/

/-- The seventeen-bit sum of R140 is the exact sum. -/
theorem sum17_toNat (x y : Word) : (sum17 x y).toNat = x.toNat + y.toNat := by
  have hx := x.isLt
  have hy := y.isLt
  simp only [sum17, BitVec.toNat_add, BitVec.toNat_setWidth]
  omega

theorem sum17_low (x y : Word) : (sum17 x y).setWidth 16 = BitVec.ofNat 16 (x.toNat + y.toNat) := by
  rw [← sum17_toNat]
  rfl

theorem sum17_carry (x y : Word) : (sum17 x y).getLsbD 16 = decide (x.toNat + y.toNat > 65535) := by
  rw [← sum17_toNat]
  exact BitVec.getLsbD_last (sum17 x y)

/-- Settles O30: INX and DCX are pair writes, DAD is the exact seventeen-bit sum. -/
theorem pairArithmetic : Obligations.PairArithmetic := by
  intro p s
  refine ⟨⟨encode_inx p, s.pair p + 1, word_add_one_toNat _, ?_⟩,
    ⟨encode_dcx p, s.pair p - 1, word_sub_one_toNat _, ?_⟩, encode_dad p, ?_⟩
  · rw [exec_inx, ordinary_setPair, State.pair_advance]
  · rw [exec_dcx, ordinary_setPair, State.pair_advance]
  · rw [exec_dad, ordinary_retired _ _ _ rfl rfl, State.pair_advance, ← sum17_low, ← sum17_carry]
    rfl

/-! ### DAA -/

/-- The correction's own carry out of the low digit says whether that digit was above 9 (R147). -/
theorem daa_ac_iff (a : Byte) (f : Flags) :
    (add8 a (daaCorr a f) false).flags.ac = true ↔ a.toNat % 16 > 9 := by
  have hlow := daaLow_iff a f
  rw [add8_ac, decide_eq_true_iff, daaCorr_toNat]
  cases hl : daaLow a f <;> cases hh : daaHigh a f <;> simp [hl] at hlow ⊢ <;> omega

/-- Settles O31, the bound values being those of the rule itself. -/
theorem decimalAdjust : Obligations.DecimalAdjust := by
  intro s
  refine ⟨rfl, daaLow s.regs.a s.flags, daaHigh s.regs.a s.flags, daaCorr s.regs.a s.flags, daaLow_iff _ _,
    daaHigh_iff _ _, daaCorr_toNat _ _, ?_, daa_ac_iff _ _⟩
  rw [exec_daa, ordinary_retired _ _ _ rfl rfl]
  rfl

end Sys2Proof.Machine
end

section
/-!
PROOFS. Logic, compares and rotates (42_logical, R150 to R171).
-/

namespace Sys2Proof.Machine

/-- Settles O32: a result in A with the flags of LOGIC. -/
theorem logicalAnd : Obligations.LogicalAnd := by
  intro k s
  refine ⟨encode_alu .ana k, _, rfl, exec_alu_withResult rfl ?_⟩
  exact logicFlags_eq _ _

/-- Settles O33: a result in A with the flags of LOGIC, AC cleared. -/
theorem logicalXorOr : Obligations.LogicalXorOr := by
  intro k s
  exact ⟨⟨encode_alu .xra k, _, rfl, exec_alu_withResult rfl (logicFlags_eq _ _)⟩,
    encode_alu .ora k, _, rfl, exec_alu_withResult rfl (logicFlags_eq _ _)⟩

/-- A difference is 0 where the operands are equal (R161). -/
theorem sub8_z_iff (a v : Byte) : (sub8 a v false).flags.z = true ↔ a = v := by
  have ha := a.isLt
  have hv := v.isLt
  have hz : (sub8 a v false).flags.z = decide ((sub8 a v false).res.toNat = 0) := zero_eq _
  rw [hz, decide_eq_true_iff, sub8_res, ← BitVec.toNat_inj, Bool.toNat_false]
  omega

/-- Settles O34: a compare is the subtraction whose result is not put in A. -/
theorem compares : Obligations.Compares := by
  intro k s
  refine ⟨encode_alu .cmp k, _, rfl, exec_alu_withResult (o := .cmp) rfl rfl, sub8_z_iff _ _, ?_⟩
  rw [sub8_cy, decide_eq_true_iff]
  rfl

/-! ### Rotates -/

/-- The value of two bit strings side by side. -/
theorem toNat_append_eq {n m : Nat} (x : BitVec n) (y : BitVec m) : (x ++ y).toNat = x.toNat * 2 ^ m + y.toNat := by
  rw [BitVec.toNat_append, ← Nat.shiftLeft_add_eq_or_of_lt y.isLt, Nat.shiftLeft_eq]

theorem topBit_toNat (a : Byte) : (a.getLsbD 7).toNat = a.toNat / 128 := by
  have ha := a.isLt
  rw [sign_eq]
  by_cases h : a.toNat ≥ 128 <;> simp [h] <;> omega

theorem lowBit_toNat (a : Byte) : (a.getLsbD 0).toNat = a.toNat % 2 := by
  have hbit : a.getLsbD 0 = decide (a.toNat % 2 = 1) := Nat.testBit_zero a.toNat
  rw [hbit]
  by_cases h : a.toNat % 2 = 1 <;> simp [h]
  omega

/-- The low seven bits moved one place up, `b` put below them. -/
theorem shiftUp_eq (a : Byte) (b : Bool) :
    (a.extractLsb' 0 7 ++ BitVec.ofBool b : BitVec (7 + 1)) = BitVec.ofNat 8 (2 * a.toNat + b.toNat) := by
  apply BitVec.eq_of_toNat_eq
  rw [toNat_append_eq, BitVec.extractLsb'_toNat, BitVec.toNat_ofBool, BitVec.toNat_ofNat]
  have hb := b.toNat_lt
  simp only [Nat.shiftRight_zero]
  omega

/-- The high seven bits moved one place down, `b` put above them. -/
theorem shiftDown_eq (a : Byte) (b : Bool) :
    (BitVec.ofBool b ++ a.extractLsb' 1 7 : BitVec (1 + 7)) = BitVec.ofNat 8 (a.toNat / 2 + 128 * b.toNat) := by
  apply BitVec.eq_of_toNat_eq
  have ha := a.isLt
  have hb := b.toNat_lt
  rw [toNat_append_eq, BitVec.extractLsb'_toNat, BitVec.toNat_ofBool, BitVec.toNat_ofNat, Nat.shiftRight_one]
  omega

theorem ordinary_accRotate (len : Word) (r : State → Rotated) (s : State) :
    ordinary len (fun t => t.accRotate (r t)) s =
      .next (s.withResult len (r (s.advance len)).res { s.flags with cy := (r (s.advance len)).cy }) :=
  ordinary_retired len _ s rfl rfl

/-- Settles O35: the bits side by side, as a number. -/
theorem rotates : Obligations.Rotates := by
  intro s
  refine ⟨⟨rfl, rfl, rfl, rfl⟩, ?_, ?_, ?_, ?_⟩
  · rw [← topBit_toNat, ← shiftUp_eq]
    exact ordinary_accRotate 1 (fun t => rlc8 t.regs.a) s
  · rw [← lowBit_toNat, ← shiftDown_eq]
    exact ordinary_accRotate 1 (fun t => rrc8 t.regs.a) s
  · rw [← shiftUp_eq]
    exact ordinary_accRotate 1 (fun t => ral8 t.regs.a t.flags.cy) s
  · rw [← shiftDown_eq]
    exact ordinary_accRotate 1 (fun t => rar8 t.regs.a t.flags.cy) s

end Sys2Proof.Machine
end

section
/-!
PROOFS. Control transfer and the stack (43_branch, R180 to R212, 44_stack_io_control, R220 to R225). Each push, call
and return is one operation with one lemma for its whole next state; a conditional form is that operation or none.
-/

namespace Sys2Proof.Machine

/-! ### The whole next state, by operation -/

theorem add_one_add_one (w : Word) : w + 1 + 1 = w + 2 := by bv_omega

theorem ordinary_jumpTo (len : Word) (a : State → Word) (s : State) :
    ordinary len (fun t => t.jumpTo (a t)) s = .next { s.retired len with pc := a (s.advance len) } :=
  ordinary_retired len _ s rfl rfl

/-- An operation that does nothing only retires the instruction. -/
theorem ordinary_id (len : Word) (s : State) : ordinary len (fun t => t) s = .next (s.retired len) :=
  ordinary_retired len _ s rfl rfl

/-- A push leaves its two bytes at SP - 1 and SP - 2 (R183). -/
theorem ordinary_pushBytes (len : Word) (vh vl : State → Byte) (s : State) :
    ∃ t, ordinary len (fun t => t.pushBytes (vh t) (vl t)) s = .next t ∧
      s.storedWord t { s.retired len with sp := s.sp - 2 } (s.sp - 2) (vl (s.advance len)) (vh (s.advance len)) := by
  refine ⟨_, ordinary_retired len _ s rfl rfl, ?_, fun b => ?_⟩
  · rw [← sub_two_eq]
    rfl
  · exact (State.readByte_congr rfl rfl rfl b).trans
      ((s.pushBytes_spec (vh (s.advance len)) (vl (s.advance len))).2 b)

/-- A call pushes the address after the instruction and goes to its target (R194, R212). -/
theorem ordinary_callTo (len target : Word) (s : State) :
    ∃ t, ordinary len (fun t => t.callTo target) s = .next t ∧
      s.storedWord t { s.retired len with pc := target, sp := s.sp - 2 } (s.sp - 2)
        (lowByte (s.pc + len)) (highByte (s.pc + len)) := by
  refine ⟨_, ordinary_retired len _ s rfl rfl, ?_, fun b => ?_⟩
  · rw [← sub_two_eq]
    rfl
  · exact (State.readByte_congr rfl rfl rfl b).trans
      ((s.pushBytes_spec (highByte (s.pc + len)) (lowByte (s.pc + len))).2 b)

/-- A return takes PC from the stack (R203). -/
theorem ordinary_returnFromCall (len : Word) (s : State) :
    ordinary len (fun t => t.returnFromCall) s =
      .next { s.retired len with pc := joinBytes (s.readByte (s.sp + 1)) (s.readByte s.sp), sp := s.sp + 2 } := by
  rw [ordinary_retired _ _ _ rfl rfl, ← add_one_add_one]
  rfl

/-- A conditional operation is the operation itself when the condition holds, and else nothing (R182). -/
theorem ordinary_ite (len : Word) (k : Cond) (op : State → State) (s : State) :
    ordinary len (fun t => if t.flags.holds k then op t else t) s =
      if s.flags.holds k then ordinary len op s else .next (s.retired len) := by
  rw [← ordinary_id]
  by_cases h : s.flags.holds k = true
  · have h' : (s.advance len).flags.holds k = true := h
    rw [if_pos h, ordinary_eq, ordinary_eq, if_pos h']
  · have h' : ¬(s.advance len).flags.holds k = true := h
    rw [if_neg h, ordinary_eq, ordinary_eq, if_neg h']

/-! ### Jumps, calls and returns -/

/-- Settles O37: a jump, or for a false condition nothing. -/
theorem jumps : Obligations.Jumps := by
  intro s
  refine ⟨fun a => ⟨rfl, ordinary_jumpTo 3 (fun _ => a) s⟩, fun k a => ⟨encode_jcond k a, ?_⟩,
    rfl, ordinary_jumpTo 1 State.hl s⟩
  rw [exec_jcond]
  refine (ordinary_ite 3 k (·.jumpTo a) s).trans ?_
  split
  · exact ordinary_jumpTo 3 (fun _ => a) s
  · rfl

/-- Settles O38: both push the address after themselves. -/
theorem callsAndRestarts : Obligations.CallsAndRestarts := by
  intro s
  refine ⟨fun a => ⟨rfl, ordinary_callTo 3 a s⟩, fun n => ⟨encode_rst n, ?_⟩⟩
  rw [exec_rst]
  exact ordinary_callTo 1 (rstTarget n.val) s

/-- Settles O39: with its condition true a Ccond is CALL. -/
theorem conditionalCalls : Obligations.ConditionalCalls := by
  intro k a s
  have hx : exec (Instr.ccond k a) s = _ := (exec_ccond k a s).trans (ordinary_ite 3 k (·.callTo a) s)
  refine ⟨encode_ccond k a, fun h => ?_, fun h => ?_⟩ <;> rw [hx, h]
  · rfl
  · exact ordinary_callTo 3 a s

/-- Settles O40: with its condition true an Rcond is RET. -/
theorem returns : Obligations.Returns := by
  intro s
  refine ⟨⟨rfl, ordinary_returnFromCall 1 s⟩, fun k => ⟨encode_rcond k, ?_⟩⟩
  rw [exec_rcond, ← ordinary_returnFromCall]
  exact ordinary_ite 1 k (·.returnFromCall) s

/-- Settles O41: the word that CALL stored is the one RET reads. -/
theorem returnUndoesCall : Obligations.ReturnUndoesCall := by
  intro s t a p r f hhigh hlow ht
  have hstored := exec_next_unique ((callsAndRestarts s).1 a).2 ht
  rw [← sub_two_add_one] at hhigh
  obtain ⟨hl, hh⟩ := State.storedWord_read hstored hlow hhigh
  have hsp : t.sp = s.sp - 2 := (congrArg State.sp hstored.1 :)
  refine ⟨_, (returns _).1.2, ?_, ?_, rfl, rfl, rfl⟩
  · calc joinBytes (t.readByte (t.sp + 1)) (t.readByte t.sp)
        = joinBytes (highByte (s.pc + 3)) (lowByte (s.pc + 3)) := by rw [hsp, hl, hh]
      _ = s.pc + 3 := joinBytes_high_low _
  · calc t.sp + 2 = s.sp - 2 + 2 := by rw [hsp]
      _ = s.sp := BitVec.sub_add_cancel _ _

/-! ### Pushes and pops -/

/-- Settles O42: both are one push of two bytes. -/
theorem pushes : Obligations.Pushes := by
  intro s
  refine ⟨fun p => ⟨encode_push p, ?_⟩, rfl, ordinary_pushBytes 1 (·.regs.a) (·.flags.toByte) s⟩
  rw [exec_push]
  exact ordinary_pushBytes 1 (·.reg p.high) (·.reg p.low) s

/-- Settles O43: the two bytes read are the halves of the pair. -/
theorem pops : Obligations.Pops := by
  intro s
  refine ⟨fun p => ⟨encode_pop p, ?_⟩, rfl, ?_⟩
  · have hword : s.topWord = joinBytes (s.readByte (s.sp + 1)) (s.readByte s.sp) := rfl
    rw [exec_pop, ← add_one_add_one]
    cases p <;> rw [ordinary_retired _ _ _ rfl rfl, State.topWord_advance, hword] <;>
      simp only [State.setPair, StackPair.toPair, highByte_joinBytes, lowByte_joinBytes] <;> rfl
  · rw [exec_popPsw, ordinary_retired _ _ _ rfl rfl, ← add_one_add_one]
    rfl

/-- Writing back to a pair's registers what they hold changes nothing. -/
theorem Regs.set_pair_self (r : Regs) (p : StackPair) : (r.set p.low (r.get p.low)).set p.high (r.get p.high) = r := by
  cases p <;> rfl

/-- Settles O44: the bytes that PUSH stored are the ones POP loads. -/
theorem popUndoesPush : Obligations.PopUndoesPush := by
  intro s t hhigh hlow
  rw [← sub_two_add_one] at hhigh
  refine ⟨fun p ht => ?_, fun ht => ?_⟩
  · have hstored := exec_next_unique ((pushes s).1 p).2 ht
    obtain ⟨hl, hh⟩ := State.storedWord_read hstored hlow hhigh
    have hsp : t.sp = s.sp - 2 := (congrArg State.sp hstored.1 :)
    have hregs : t.regs = s.regs := (congrArg State.regs hstored.1 :)
    have hflags : t.flags = s.flags := (congrArg State.flags hstored.1 :)
    have hx := ((pops t).1 p).2
    rw [hsp, hl, hh, hregs, Regs.set_pair_self, BitVec.sub_add_cancel] at hx
    exact ⟨_, hx, rfl, rfl, hflags⟩
  · have hstored := exec_next_unique (pushes s).2.2 ht
    obtain ⟨hl, hh⟩ := State.storedWord_read hstored hlow hhigh
    have hsp : t.sp = s.sp - 2 := (congrArg State.sp hstored.1 :)
    have hregs : t.regs = s.regs := (congrArg State.regs hstored.1 :)
    have hx := (pops t).2.2
    rw [hsp, hl, hh, hregs, BitVec.sub_add_cancel] at hx
    exact ⟨_, hx, rfl, rfl, s.flags.ofByte_toByte⟩

/-- XTHL's two stores, the high byte first, read as the two stores of a word (R224). -/
theorem State.readByte_twoStores_highFirst (s : State) (a : Word) (lo hi : Byte) (b : Word) :
    ((s.writeByte (a + 1) hi).writeByte a lo).readByte b =
      if b = a ∧ s.cellKind a = .ram then lo
      else if b = a + 1 ∧ s.cellKind (a + 1) = .ram then hi
      else s.readByte b := by
  rw [State.readByte_writeByte, State.readByte_writeByte, State.cellKind_writeByte]

/-- Settles O45: the word on the stack is read before the two stores. -/
theorem stackExchange : Obligations.StackExchange := by
  intro s
  refine ⟨⟨rfl, _, (exec_xthl s).trans (ordinary_retired _ _ _ rfl rfl), ?_, fun b => ?_⟩, rfl, ?_⟩
  · rw [State.exchangeTopHL, State.topWord_advance, State.topWord, State.readWord, State.setPair, highByte_joinBytes,
      lowByte_joinBytes]
    rfl
  · exact (State.readByte_congr rfl rfl rfl b).trans (s.readByte_twoStores_highFirst s.sp s.regs.l s.regs.h b)
  · rw [exec_sphl, ordinary_setPair]
    rfl

end Sys2Proof.Machine
end

section
/-!
PROOFS. Ports and machine control (44_stack_io_control, R230 to R241).
-/

namespace Sys2Proof.Machine

/-- The byte IN takes is the next listed answer, where there is one (R57). -/
theorem State.portAnswer_of_head? {s : State} {port w : Byte} (h : s.portIn.head? = some w) :
    s.portAnswer port = w := by
  unfold State.portAnswer
  cases hp : s.portIn with
  | nil => simp [hp] at h
  | cons v vs => simpa [hp] using h

/-- Settles O46: each is one event, and IN takes an answer besides. -/
theorem portTransfers : Obligations.PortTransfers := by
  intro port s
  refine ⟨⟨rfl, s.portAnswer port, fun w h => State.portAnswer_of_head? h, ?_⟩, rfl, ?_⟩
  · rw [exec_inPort, ordinary_retired _ _ _ rfl rfl]
    rfl
  · rw [exec_outPort, ordinary_retired _ _ _ rfl rfl]
    rfl

/-- Settles O47, by the completion step of each class. -/
theorem machineControl : Obligations.MachineControl := by
  intro s
  refine ⟨⟨rfl, ?_⟩, ⟨rfl, ?_⟩, ⟨rfl, ordinary_retired 1 _ s rfl rfl⟩, rfl, ordinary_id 1 s⟩
  · rw [exec_ei, runInstr_eq, State.complete_ei]
    rfl
  · rw [exec_di, runInstr_eq, State.complete_di]
    cases s.eiPending <;> rfl

/-! ### SIM and RIM -/

/-- SIM writes the 8085A's register and the trace alone. -/
theorem State.setMasks_eq (s : State) :
    s.setMasks =
      { s with
        serial := simSerial s.regs.a s.serial
        trace := if s.regs.a.getLsbD 6 then s.trace ++ [.sodWrite (s.regs.a.getLsbD 7)] else s.trace } := by
  unfold State.setMasks
  cases s.regs.a.getLsbD 6 <;> rfl

/-- The whole next state after SIM on the 8085A. -/
theorem exec_sim_next {s : State} (hv : s.variant = .i8085A) :
    exec .sim s =
      .next { s.retired 1 with
        serial := simSerial s.regs.a s.serial
        trace := if s.regs.a.getLsbD 6 then s.trace ++ [.sodWrite (s.regs.a.getLsbD 7)] else s.trace } := by
  rw [exec_sim, only85_of_i8085A hv, ordinary_retired _ _ _ (by simp) (by simp), State.setMasks_eq]
  rfl

/-- Settles O48: each bit group of A decides its own part of the register. -/
theorem setInterruptMask : Obligations.SetInterruptMask := by
  intro s
  refine ⟨rfl, fun hv => (exec_sim s).trans (only85_of_i8080 hv _ _), fun hv => ⟨_, exec_sim_next hv, rfl, ?_⟩⟩
  rw [simSerial]
  refine ⟨fun h => ?_, fun h => ?_, ?_, fun h => ?_, fun h => ?_⟩
  · rw [h]
    exact ⟨rfl, rfl, rfl⟩
  · rw [h]
    exact ⟨rfl, rfl, rfl⟩
  · cases s.regs.a.getLsbD 4
    · exact (Bool.and_true _).symm
    · exact (Bool.and_false _).symm
  · rw [h]
    exact ⟨rfl, rfl⟩
  · rw [h]
    exact ⟨rfl, rfl⟩

/-- The byte RIM delivers, bit by bit (R241). -/
theorem State.rimByte_bits (s : State) :
    s.rimByte.getLsbD 7 = s.pins.sid ∧ s.rimByte.getLsbD 6 = s.serial.i75 ∧ s.rimByte.getLsbD 5 = s.pins.rst65 ∧
    s.rimByte.getLsbD 4 = s.pins.rst55 ∧ s.rimByte.getLsbD 3 = s.rimEnable ∧ s.rimByte.getLsbD 2 = s.serial.m75 ∧
    s.rimByte.getLsbD 1 = s.serial.m65 ∧ s.rimByte.getLsbD 0 = s.serial.m55 := by
  unfold State.rimByte
  generalize s.pins.sid = b7, s.serial.i75 = b6, s.pins.rst65 = b5, s.pins.rst55 = b4, s.rimEnable = b3,
    s.serial.m75 = b2, s.serial.m65 = b1, s.serial.m55 = b0
  revert b7 b6 b5 b4 b3 b2 b1 b0
  decide

/-- Settles O49: bit 3 is INTE but right after EI. -/
theorem readInterruptMask : Obligations.ReadInterruptMask := by
  intro s
  refine ⟨rfl, fun hv => (exec_rim s).trans (only85_of_i8080 hv _ _), fun hv => ⟨s.rimByte, ?_, ?_⟩⟩
  · rw [exec_rim, only85_of_i8085A hv, ordinary_retired _ _ _ rfl rfl]
    rfl
  · obtain ⟨h7, h6, h5, h4, h3, h2, h1, h0⟩ := s.rimByte_bits
    refine ⟨h7, h6, h5, h4, fun he => ?_, h2, h1, h0⟩
    rw [h3, State.rimEnable, he]
    rfl

end Sys2Proof.Machine
end

section
/-!
PROOFS. Interrupts (60_exceptions, R254 to R266): which request a boundary chooses, what its acceptance does, and the
runs in which none is chosen.
-/

namespace Sys2Proof.Machine

/-! ### Which request a boundary chooses -/

/-- INT or INTR is chosen with its bytes, when interrupts are enabled (R257). -/
theorem State.suppliedRequest_eq_some_iff (s : State) (req : Request) :
    s.suppliedRequest = some req ↔ ∃ bs, req = .intr bs ∧ s.enabled = true ∧ s.pins.intr = some bs := by
  unfold State.suppliedRequest
  cases s.enabled with
  | false => simp
  | true => simp [Option.map_eq_some_iff, and_comm, eq_comm]

/-- The order of priority on the 8085A (R260). -/
theorem State.select_of_i8085A {s : State} (hv : s.variant = .i8085A) :
    s.select =
      if s.pins.trap then some .trap
      else if s.enabled && !s.serial.m75 && s.serial.i75 then some .rst75
      else if s.enabled && !s.serial.m65 && s.pins.rst65 then some .rst65
      else if s.enabled && !s.serial.m55 && s.pins.rst55 then some .rst55
      else s.suppliedRequest := by
  simp [State.select, hv]

theorem State.select_of_i8080 {s : State} (hv : s.variant = .i8080) : s.select = s.suppliedRequest := by
  simp [State.select, hv]

theorem State.enabled_iff (s : State) : s.enabled = true ↔ s.inte = true ∧ s.eiPending = false := by
  simp [State.enabled]

/-- A masked input of the 8085A is acceptable when interrupts are enabled, its mask is off and it is present (R257). -/
theorem acceptable_iff (on m x : Bool) : (on && !m && x) = true ↔ on = true ∧ m = false ∧ x = true := by
  cases on <;> cases m <;> simp

/-- Settles O50, along the chain of priorities. -/
theorem requestPriority : Obligations.RequestPriority := by
  intro s on a75 a65 a55 hon h75 h65 h55
  rw [← s.enabled_iff] at hon
  rw [hon, ← acceptable_iff] at h75 h65 h55
  refine ⟨fun hv => ?_, fun hv req => ?_⟩
  · rw [State.select_of_i8085A hv, h75, h65, h55, hon]
    have hsup := s.suppliedRequest_eq_some_iff
    refine ⟨?_, ?_, ?_, ?_, fun bs => ?_⟩ <;> split_ifs <;> simp_all
  · rw [State.select_of_i8080 hv, s.suppliedRequest_eq_some_iff, hon]

/-! ### Accepting a request -/

/-- The handler of RST 7.5 is entered with the latch cleared; the rest is as for the others (R259). -/
theorem State.enterHandler_clearing_i75 (s : State) :
    s.sample.storedWord
      (({ s.sample with serial := { s.sample.serial with i75 := false } } : State).enterHandler 0x003C#16)
      { s.sample with
        inte := false, eiPending := false, halted := false, sp := s.sp - 2, pc := 0x003C#16
        serial := { s.serial with i75 := false } }
      (s.sp - 2) (lowByte s.pc) (highByte s.pc) := by
  rw [State.sample_serial_frame]
  exact State.enterHandler_spec { s.sample with serial := { s.serial with i75 := false } } 0x003C#16

/-- Settles O51: all four enter their handler, RST 7.5 with the latch cleared. -/
theorem vectoredAcceptance : Obligations.VectoredAcceptance := by
  intro s hf
  refine ⟨fun req vector hreq hsel => ⟨s.sample.enterHandler vector, ?_, s.sample.enterHandler_spec vector⟩,
    fun hsel => ⟨_, step_accept hf hsel, s.enterHandler_clearing_i75⟩⟩
  rw [step_accept hf hsel]
  rcases hreq with ⟨rfl, rfl⟩ | ⟨rfl, rfl⟩ | ⟨rfl, rfl⟩ <;> rfl

/-- The bytes that stand for an `RST n` (R258). -/
theorem rst_byte_iff (op : Byte) : op &&& 0xC7#8 = 0xC7#8 ↔ ∃ n : Fin 8, op = BitVec.ofNat 8 (0xC7 + 8 * n.val) := by
  have h : ∀ k : Fin 256, BitVec.ofFin k &&& 0xC7#8 = 0xC7#8 ↔
      ∃ n : Fin 8, BitVec.ofFin k = BitVec.ofNat 8 (0xC7 + 8 * n.val) := by decide +kernel
  exact h op.toFin

theorem suppliedTarget_rst (n : Fin 8) :
    suppliedTarget [BitVec.ofNat 8 (0xC7 + 8 * n.val)] = some (BitVec.ofNat 16 (8 * n.val)) := by
  revert n
  decide

/-- Any other bytes than those of an `RST n` or a `CALL addr` lead nowhere (R265). -/
theorem suppliedTarget_eq_none {bs : List Byte} (hrst : ∀ n : Fin 8, bs ≠ [BitVec.ofNat 8 (0xC7 + 8 * n.val)])
    (hcall : ∀ lo hi : Byte, bs ≠ [0xCD#8, lo, hi]) : suppliedTarget bs = none := by
  rcases suppliedTarget_cases bs with ⟨op, rfl, hop, -⟩ | ⟨lo, hi, rfl, -⟩ | h
  · obtain ⟨n, rfl⟩ := (rst_byte_iff op).1 hop
    exact absurd rfl (hrst n)
  · exact absurd rfl (hcall lo hi)
  · exact h

theorem State.accept_of_target {bs : List Byte} {target : Word} (s : State) (h : suppliedTarget bs = some target) :
    s.accept (.intr bs) = .next (s.enterHandler target) := by
  rw [State.accept, h]

theorem State.accept_of_no_target {bs : List Byte} (s : State) (h : suppliedTarget bs = none) :
    s.accept (.intr bs) = .fault (.intInstrRefused bs) := by
  rw [State.accept, h]

/-- Settles O52: the supplied bytes decide whether there is a target. -/
theorem suppliedAcceptance : Obligations.SuppliedAcceptance := by
  intro s bs hf hsel
  refine ⟨fun target htarget => ⟨s.sample.enterHandler target, ?_, s.sample.enterHandler_spec target⟩,
    fun hrst hcall => ?_⟩
  · have ht : suppliedTarget bs = some target := by
      rcases htarget with ⟨n, rfl, rfl⟩ | ⟨lo, hi, rfl, rfl⟩
      · exact suppliedTarget_rst n
      · rfl
    exact (step_accept hf hsel).trans (s.sample.accept_of_target ht)
  · exact (step_accept hf hsel).trans (s.sample.accept_of_no_target (suppliedTarget_eq_none hrst hcall))

/-! ### Boundaries at which nothing is chosen -/

/-- The report at the next boundary has no TRAP, or there is no such input (R255). -/
def State.noTrapNext (s : State) : Prop := s.variant = .i8080 ∨ (s.schedule.headD Pins.quiet).trap = false

/-- With interrupts disabled TRAP alone is acceptable (R257). -/
theorem State.nothingAcceptable_of_disabled {s : State} (he : s.enabled = false) (ht : s.noTrapNext) :
    s.nothingAcceptable = true := by
  have hen : s.sample.enabled = false := he
  have hsup : s.sample.suppliedRequest = none := by simp [State.suppliedRequest, hen]
  have hsel : s.sample.select = none := by
    cases hv : s.variant with
    | i8080 => rw [State.select_of_i8080 (s := s.sample) hv, hsup]
    | i8085A =>
      have htrap : s.sample.pins.trap = false := ht.resolve_left (by simp [hv])
      rw [State.select_of_i8085A (s := s.sample) hv, htrap, hen, hsup]
      rfl
  rw [State.nothingAcceptable, hsel]
  rfl

/-! ### A halt without interrupts -/

/-- Halted for good: no fault, interrupts disabled, and no TRAP among the reports to come (R262). -/
structure State.HaltedForGood (s : State) : Prop where
  fault : s.fault = none
  halted : s.halted = true
  inte : s.inte = false
  noTrap : s.variant = .i8080 ∨ ∀ p ∈ s.schedule, p.trap = false

namespace State.HaltedForGood

theorem nothingAcceptable {s : State} (h : s.HaltedForGood) : s.nothingAcceptable = true := by
  have he : s.enabled = false := by rw [State.enabled, h.inte, Bool.false_and]
  refine State.nothingAcceptable_of_disabled he (h.noTrap.imp_right fun ht => ?_)
  cases hs : s.schedule with
  | nil => rfl
  | cons p ps => exact ht p (by simp [hs])

theorem stepState {s : State} (h : s.HaltedForGood) : stepState s = s.sample :=
  stepState_of_next (step_halted h.fault h.nothingAcceptable h.halted)

theorem sample {s : State} (h : s.HaltedForGood) : s.sample.HaltedForGood where
  fault := h.fault
  halted := h.halted
  inte := h.inte
  noTrap := h.noTrap.imp_right fun ht p hp => ht p (List.mem_of_mem_tail hp)

theorem after_succ {s : State} (h : s.HaltedForGood) (n : Nat) : s.after (n + 1) = s.sample.after n := by
  rw [State.after, h.stepState]

theorem after {s : State} (h : s.HaltedForGood) (n : Nat) : (s.after n).HaltedForGood := by
  induction n generalizing s with
  | zero => exact h
  | succ n ih => exact h.after_succ n ▸ ih h.sample

end State.HaltedForGood

theorem State.sameProcessor.trans {s t u : State} (h : s.sameProcessor t) (k : t.sameProcessor u) :
    s.sameProcessor u := by
  unfold State.sameProcessor at *
  simp_all

theorem State.HaltedForGood.sameProcessor_after {s : State} (h : s.HaltedForGood) (n : Nat) :
    s.sameProcessor (s.after n) := by
  induction n generalizing s with
  | zero => simp [State.after, State.sameProcessor]
  | succ n ih => exact h.after_succ n ▸ s.sameProcessor_sample.trans (ih h.sample)

/-- The edges among the first reports, the next one first. -/
theorem any_take_succ (l : List Pins) (n : Nat) :
    (l.take (n + 1)).any (·.rst75) = ((l.headD Pins.quiet).rst75 || (l.tail.take n).any (·.rst75)) := by
  cases l with
  | nil => simp [Pins.quiet]
  | cons p ps => rfl

theorem State.HaltedForGood.i75_after {s : State} (h : s.HaltedForGood) (n : Nat) :
    (s.after n).serial.i75 =
      if s.variant = .i8085A then s.serial.i75 || (s.schedule.take n).any (·.rst75) else s.serial.i75 := by
  induction n generalizing s with
  | zero => simp [State.after]
  | succ n ih =>
    rw [h.after_succ, ih h.sample, any_take_succ, State.sample_i75, State.sample_variant, State.sample_schedule]
    split
    · rw [Bool.or_assoc]
    · rfl

/-- Settles O53, by induction on the steps: each only samples. -/
theorem haltIsFinal : Obligations.HaltIsFinal := by
  intro s hf hh hi ht
  have h : s.HaltedForGood := ⟨hf, hh, hi, ht⟩
  exact ⟨⟨hf, hh, fun n => (h.after n).nothingAcceptable⟩, fun n => ⟨h.sameProcessor_after n, h.i75_after n⟩⟩

/-! ### The end of a handler -/

/-- Where there is a cell, a read gives the same byte at every boundary (R55). -/
theorem State.readByte_of_present {s : State} (t : State) {a : Word} (hk : s.cellKind a ≠ .absent)
    (hmap : t.memMap = s.memMap) (hmem : t.mem = s.mem) : t.readByte a = s.readByte a := by
  have hk' : t.cellKind a = s.cellKind a := State.cellKind_congr hmap a
  unfold State.readByte State.busRead
  rw [hk', hmem]
  cases h : s.cellKind a with
  | ram | rom => rfl
  | absent => exact absurd h hk

/-- With interrupts disabled and no TRAP, a step runs the instruction that the byte at PC stands for alone. -/
theorem step_of_opcode {s : State} {i : Instr} {op : Byte} (hf : s.fault = none) (hh : s.halted = false)
    (he : s.enabled = false) (ht : s.noTrapNext) (hk : s.cellKind s.pc ≠ .absent) (hop : s.readByte s.pc = op)
    (hi : ∀ b2 b3, decodeAt op b2 b3 = i) : step s = exec i s.sample := by
  have hfetch : s.sample.fetchByte s.sample.pc = op :=
    (State.fetchByte_eq_readByte (s := s.sample) hk).trans ((State.readByte_of_present s.sample hk rfl rfl).trans hop)
  rw [step_exec hf (State.nothingAcceptable_of_disabled he ht) hh, State.fetchInstr, hfetch, hi]

/-- The state after EI at a boundary. -/
def State.afterEi (s : State) : State :=
  { s.sample with pc := s.pc + 1, inte := s.inte || s.eiPending, eiPending := true }

/-- The state after RET at a boundary. -/
def State.afterRet (s : State) : State :=
  { s.sample.retired 1 with
    pc := joinBytes (s.sample.readByte (s.sp + 1)) (s.sample.readByte s.sp)
    sp := s.sp + 2 }

theorem exec_ei_sample (s : State) : exec .ei s.sample = .next s.afterEi := (machineControl s.sample).1.2

theorem exec_ret_sample (s : State) : exec .ret s.sample = .next s.afterRet := (returns s.sample).1.2

/-- TRAP reported at neither of two boundaries (R255). -/
theorem noTrapNext_of_take_two {s : State} (h : s.variant = .i8080 ∨ ∀ p ∈ s.schedule.take 2, p.trap = false) :
    s.noTrapNext ∧ s.afterEi.noTrapNext := by
  refine h.elim (fun hv => ⟨.inl hv, .inl hv⟩) fun ht => ⟨.inr ?_, .inr ?_⟩
  · cases hs : s.schedule with
    | nil => rfl
    | cons p ps => exact ht p (by simp [hs])
  · change (s.schedule.tail.headD Pins.quiet).trap = false
    match hs : s.schedule with
    | [] => rfl
    | [_] => rfl
    | _ :: q :: _ => exact ht q (by simp [hs])

/-- Settles O54: EI's delay keeps interrupts off for the boundary before RET, whose completion step turns them on. -/
theorem handlerReturns : Obligations.HandlerReturns := by
  intro s hf hh hi he htrap hcells hei hret
  simp only [List.forall_mem_cons, List.not_mem_nil, false_implies, implies_true, and_true] at hcells
  obtain ⟨hpc, hpc1, hsp, hsp1⟩ := hcells
  obtain ⟨ht0, ht1⟩ := noTrapNext_of_take_two htrap
  have hoff : s.enabled = false := by rw [State.enabled, hi, Bool.false_and]
  have h1 : step s = .next s.afterEi :=
    (step_of_opcode hf hh hoff ht0 hpc hei fun _ _ => rfl).trans (exec_ei_sample s)
  have hwait : s.afterEi.enabled = false := Bool.and_false _
  have hret1 : s.afterEi.readByte s.afterEi.pc = 0xC9#8 :=
    (State.readByte_of_present s.afterEi hpc1 rfl rfl).trans hret
  have h2 : step s.afterEi = .next s.afterEi.afterRet :=
    (step_of_opcode (s := s.afterEi) hf hh hwait ht1 hpc1 hret1 fun _ _ => rfl).trans (exec_ret_sample s.afterEi)
  have h : s.after 2 = s.afterEi.afterRet := by
    rw [State.after, State.after, State.after, stepState_of_next h1, stepState_of_next h2]
  have hlow : s.afterEi.sample.readByte s.sp = s.readByte s.sp := State.readByte_of_present _ hsp rfl rfl
  have hhigh : s.afterEi.sample.readByte (s.sp + 1) = s.readByte (s.sp + 1) := State.readByte_of_present _ hsp1 rfl rfl
  rw [h]
  exact ⟨congrArg₂ joinBytes hhigh hlow, rfl, Bool.or_true _, rfl, hf, hh, rfl, rfl, rfl⟩

end Sys2Proof.Machine
end
